-- ==== Sys2Proof/Word.lean ====
section
/-! DEFINITION. The word types of the block (00_scope.md R8, R11) and the access word's layout
(30_encoding.md R80). Bit 0 is the least significant bit everywhere (R11). -/

namespace Sys2Proof

/-- A byte: a frame byte `RAW[k]`, or RELEASE. -/
abbrev Byte := BitVec 8

/-- A 16-bit field: a timestamp, a duration, an edge count (00_scope.md R8). -/
abbrev Half := BitVec 16

/-- A bus data word (00_scope.md R8: 32 bits). -/
abbrev Word := BitVec 32

/-- A word index `IDX[4:0]` (20_memory.md R60). -/
abbrev Index := BitVec 5

/-- A 38-bit access word: one host operation on the block (30_encoding.md R80). -/
abbrev AccessWord := BitVec 38

end Sys2Proof
end

