-- ==== Sys2Proof/Syntax.lean ====
section
/-! DEFINITION. The operations of the block: one constructor per row of spec/opcode_table.json
(30_encoding.md R80 to R84). A read has no operand (WDATA is not part of its match, R81), a write carries
its whole WDATA, a reserved block carries the index or the command word that selects within it. -/

namespace Sys2Proof

/-- A host operation (00_scope.md R2: the programming interface that plays an instruction set's role). -/
inductive Instr where
  /-- RD_ID (R101). -/
  | rdId
  /-- RD_PARAM (R102). -/
  | rdParam
  /-- RD_CTRL (R103). -/
  | rdCtrl
  /-- RD_CMD (R104). -/
  | rdCmd
  /-- RD_STATUS (R105). -/
  | rdStatus
  /-- RD_START_LOW (R106). -/
  | rdStartLow
  /-- RD_RELEASE (R107). -/
  | rdRelease
  /-- RD_WINDOW (R108). -/
  | rdWindow
  /-- RD_THRESH (R109). -/
  | rdThresh
  /-- RD_EDGE_COUNT (R110). -/
  | rdEdgeCount
  /-- RD_BITCOUNT (R111). -/
  | rdBitcount
  /-- RD_TS_DATA (R154). -/
  | rdTsData
  /-- RD_FIFO_LEVEL (R112). -/
  | rdFifoLevel
  /-- RD_RAW_LO (R113). -/
  | rdRawLo
  /-- RD_RAW_HI (R114). -/
  | rdRawHi
  /-- RD_HUM (R115). -/
  | rdHum
  /-- RD_TEMP (R116). -/
  | rdTemp
  /-- RD_TIMER (R117). -/
  | rdTimer
  /-- RD_RSVD_18_19 (R118). -/
  | rdRsvd18To19 (idx : Index)
  /-- RD_RSVD_20_23 (R118). -/
  | rdRsvd20To23 (idx : Index)
  /-- RD_RSVD_24_31 (R118). -/
  | rdRsvd24To31 (idx : Index)
  /-- WR_ID (R119). -/
  | wrId (wdata : Word)
  /-- WR_PARAM (R120). -/
  | wrParam (wdata : Word)
  /-- WR_CTRL (R121). -/
  | wrCtrl (wdata : Word)
  /-- WR_STATUS (R123). -/
  | wrStatus (wdata : Word)
  /-- WR_START_LOW (R124). -/
  | wrStartLow (wdata : Word)
  /-- WR_RELEASE (R125). -/
  | wrRelease (wdata : Word)
  /-- WR_WINDOW (R126). -/
  | wrWindow (wdata : Word)
  /-- WR_THRESH (R127). -/
  | wrThresh (wdata : Word)
  /-- WR_EDGE_COUNT (R128). -/
  | wrEdgeCount (wdata : Word)
  /-- WR_BITCOUNT (R129). -/
  | wrBitcount (wdata : Word)
  /-- WR_TS_DATA (R155). -/
  | wrTsData (wdata : Word)
  /-- WR_FIFO_LEVEL (R130). -/
  | wrFifoLevel (wdata : Word)
  /-- WR_RAW_LO (R131). -/
  | wrRawLo (wdata : Word)
  /-- WR_RAW_HI (R132). -/
  | wrRawHi (wdata : Word)
  /-- WR_HUM (R133). -/
  | wrHum (wdata : Word)
  /-- WR_TEMP (R134). -/
  | wrTemp (wdata : Word)
  /-- WR_TIMER (R135). -/
  | wrTimer (wdata : Word)
  /-- WR_RSVD_18_19 (R136). -/
  | wrRsvd18To19 (idx : Index) (wdata : Word)
  /-- WR_RSVD_20_23 (R136). -/
  | wrRsvd20To23 (idx : Index) (wdata : Word)
  /-- WR_RSVD_24_31 (R136). -/
  | wrRsvd24To31 (idx : Index) (wdata : Word)
  /-- NOP (R137). -/
  | nop
  /-- START (R142). -/
  | start
  /-- DECODE (R178). -/
  | decode
  /-- INTERPRET (R207). -/
  | interpret
  /-- CLEAR (R138). -/
  | clear
  /-- CMD_RSVD_B31 (R139). -/
  | cmdRsvdB31 (cmdword : Word)
  /-- CMD_RSVD_B30 (R139). -/
  | cmdRsvdB30 (cmdword : Word)
  /-- CMD_RSVD_B29 (R139). -/
  | cmdRsvdB29 (cmdword : Word)
  /-- CMD_RSVD_B28 (R139). -/
  | cmdRsvdB28 (cmdword : Word)
  /-- CMD_RSVD_B27 (R139). -/
  | cmdRsvdB27 (cmdword : Word)
  /-- CMD_RSVD_B26 (R139). -/
  | cmdRsvdB26 (cmdword : Word)
  /-- CMD_RSVD_B25 (R139). -/
  | cmdRsvdB25 (cmdword : Word)
  /-- CMD_RSVD_B24 (R139). -/
  | cmdRsvdB24 (cmdword : Word)
  /-- CMD_RSVD_B23 (R139). -/
  | cmdRsvdB23 (cmdword : Word)
  /-- CMD_RSVD_B22 (R139). -/
  | cmdRsvdB22 (cmdword : Word)
  /-- CMD_RSVD_B21 (R139). -/
  | cmdRsvdB21 (cmdword : Word)
  /-- CMD_RSVD_B20 (R139). -/
  | cmdRsvdB20 (cmdword : Word)
  /-- CMD_RSVD_B19 (R139). -/
  | cmdRsvdB19 (cmdword : Word)
  /-- CMD_RSVD_B18 (R139). -/
  | cmdRsvdB18 (cmdword : Word)
  /-- CMD_RSVD_B17 (R139). -/
  | cmdRsvdB17 (cmdword : Word)
  /-- CMD_RSVD_B16 (R139). -/
  | cmdRsvdB16 (cmdword : Word)
  /-- CMD_RSVD_B15 (R139). -/
  | cmdRsvdB15 (cmdword : Word)
  /-- CMD_RSVD_B14 (R139). -/
  | cmdRsvdB14 (cmdword : Word)
  /-- CMD_RSVD_B13 (R139). -/
  | cmdRsvdB13 (cmdword : Word)
  /-- CMD_RSVD_B12 (R139). -/
  | cmdRsvdB12 (cmdword : Word)
  /-- CMD_RSVD_B11 (R139). -/
  | cmdRsvdB11 (cmdword : Word)
  /-- CMD_RSVD_B10 (R139). -/
  | cmdRsvdB10 (cmdword : Word)
  /-- CMD_RSVD_B9 (R139). -/
  | cmdRsvdB9 (cmdword : Word)
  /-- CMD_RSVD_B8 (R139). -/
  | cmdRsvdB8 (cmdword : Word)
  /-- CMD_RSVD_B7 (R139). -/
  | cmdRsvdB7 (cmdword : Word)
  /-- CMD_RSVD_B6 (R139). -/
  | cmdRsvdB6 (cmdword : Word)
  /-- CMD_RSVD_B5 (R139). -/
  | cmdRsvdB5 (cmdword : Word)
  /-- CMD_RSVD_B4 (R139). -/
  | cmdRsvdB4 (cmdword : Word)
  /-- CMD_RSVD_B3 (R139). -/
  | cmdRsvdB3 (cmdword : Word)
  /-- CMD_RSVD_6_7 (R139). -/
  | cmdRsvd6To7 (cmdword : Word)
  /-- CMD_RSVD_5 (R139). -/
  | cmdRsvd5
  deriving DecidableEq, Repr

end Sys2Proof
end

