-- ==== Sys2Proof/WellFormed.lean ====
section
/-! DEFINITION. Which terms of Instr stand for an operation of the table: a reserved index or a reserved
command word must lie in the block its row covers (30_encoding.md R81). -/

namespace Sys2Proof

/-- `n` lies in the closed range `lo .. hi`. -/
def inRange (lo hi n : Nat) : Bool := decide (lo ≤ n) && decide (n ≤ hi)

/-- The highest bit set in the command word is bit `k` (the rows CMD_RSVD_B31 .. CMD_RSVD_B3). -/
def topBitIs (k : Nat) (w : Word) : Bool := inRange (2 ^ k) (2 ^ (k + 1) - 1) w.toNat

/-- The operand selects the row the constructor stands for. -/
def wellFormed : Instr → Bool
  | .rdId => true
  | .rdParam => true
  | .rdCtrl => true
  | .rdCmd => true
  | .rdStatus => true
  | .rdStartLow => true
  | .rdRelease => true
  | .rdWindow => true
  | .rdThresh => true
  | .rdEdgeCount => true
  | .rdBitcount => true
  | .rdTsData => true
  | .rdFifoLevel => true
  | .rdRawLo => true
  | .rdRawHi => true
  | .rdHum => true
  | .rdTemp => true
  | .rdTimer => true
  | .rdRsvd18To19 idx => inRange 18 19 idx.toNat
  | .rdRsvd20To23 idx => inRange 20 23 idx.toNat
  | .rdRsvd24To31 idx => inRange 24 31 idx.toNat
  | .wrId _ => true
  | .wrParam _ => true
  | .wrCtrl _ => true
  | .wrStatus _ => true
  | .wrStartLow _ => true
  | .wrRelease _ => true
  | .wrWindow _ => true
  | .wrThresh _ => true
  | .wrEdgeCount _ => true
  | .wrBitcount _ => true
  | .wrTsData _ => true
  | .wrFifoLevel _ => true
  | .wrRawLo _ => true
  | .wrRawHi _ => true
  | .wrHum _ => true
  | .wrTemp _ => true
  | .wrTimer _ => true
  | .wrRsvd18To19 idx _ => inRange 18 19 idx.toNat
  | .wrRsvd20To23 idx _ => inRange 20 23 idx.toNat
  | .wrRsvd24To31 idx _ => inRange 24 31 idx.toNat
  | .nop => true
  | .start => true
  | .decode => true
  | .interpret => true
  | .clear => true
  | .cmdRsvdB31 cmdword => topBitIs 31 cmdword
  | .cmdRsvdB30 cmdword => topBitIs 30 cmdword
  | .cmdRsvdB29 cmdword => topBitIs 29 cmdword
  | .cmdRsvdB28 cmdword => topBitIs 28 cmdword
  | .cmdRsvdB27 cmdword => topBitIs 27 cmdword
  | .cmdRsvdB26 cmdword => topBitIs 26 cmdword
  | .cmdRsvdB25 cmdword => topBitIs 25 cmdword
  | .cmdRsvdB24 cmdword => topBitIs 24 cmdword
  | .cmdRsvdB23 cmdword => topBitIs 23 cmdword
  | .cmdRsvdB22 cmdword => topBitIs 22 cmdword
  | .cmdRsvdB21 cmdword => topBitIs 21 cmdword
  | .cmdRsvdB20 cmdword => topBitIs 20 cmdword
  | .cmdRsvdB19 cmdword => topBitIs 19 cmdword
  | .cmdRsvdB18 cmdword => topBitIs 18 cmdword
  | .cmdRsvdB17 cmdword => topBitIs 17 cmdword
  | .cmdRsvdB16 cmdword => topBitIs 16 cmdword
  | .cmdRsvdB15 cmdword => topBitIs 15 cmdword
  | .cmdRsvdB14 cmdword => topBitIs 14 cmdword
  | .cmdRsvdB13 cmdword => topBitIs 13 cmdword
  | .cmdRsvdB12 cmdword => topBitIs 12 cmdword
  | .cmdRsvdB11 cmdword => topBitIs 11 cmdword
  | .cmdRsvdB10 cmdword => topBitIs 10 cmdword
  | .cmdRsvdB9 cmdword => topBitIs 9 cmdword
  | .cmdRsvdB8 cmdword => topBitIs 8 cmdword
  | .cmdRsvdB7 cmdword => topBitIs 7 cmdword
  | .cmdRsvdB6 cmdword => topBitIs 6 cmdword
  | .cmdRsvdB5 cmdword => topBitIs 5 cmdword
  | .cmdRsvdB4 cmdword => topBitIs 4 cmdword
  | .cmdRsvdB3 cmdword => topBitIs 3 cmdword
  | .cmdRsvd6To7 cmdword => inRange 6 7 cmdword.toNat
  | .cmdRsvd5 => true

end Sys2Proof
end

