-- ==== Sys2Proof/Decode.lean ====
section
/-! DEFINITION. The decoder and the encoder of host operations (30_encoding.md R80 to R87), and the opcode
table. The decoder is total on the 38-bit access words (R81) and, on bytes, rejects by name what is no
access word. -/

namespace Sys2Proof

/-! ## The access word (R80) -/

/-- `{W, IDX, WDATA}` (R80: W is bit 37, IDX bits 36:32, WDATA bits 31:0). -/
def accessWord (write : Bool) (idx : Index) (wdata : Word) : AccessWord :=
  BitVec.ofBool write ++ idx ++ wdata

/-- W, bit 37. -/
def accessWrite (a : AccessWord) : Bool := a.getLsbD 37

/-- IDX, bits 36:32. -/
def accessIndex (a : AccessWord) : Index := a.extractLsb' 32 5

/-- WDATA, bits 31:0. -/
def accessData (a : AccessWord) : Word := a.extractLsb' 0 32

/-! ## The decoder -/

/-- The operation of a read of word index `idx` (BUSR, R81: selected by IDX alone). -/
def decodeRead (idx : Index) : Instr :=
  match idx.toNat with
  | 0 => .rdId
  | 1 => .rdParam
  | 2 => .rdCtrl
  | 3 => .rdCmd
  | 4 => .rdStatus
  | 5 => .rdStartLow
  | 6 => .rdRelease
  | 7 => .rdWindow
  | 8 => .rdThresh
  | 9 => .rdEdgeCount
  | 10 => .rdBitcount
  | 11 => .rdTsData
  | 12 => .rdFifoLevel
  | 13 => .rdRawLo
  | 14 => .rdRawHi
  | 15 => .rdHum
  | 16 => .rdTemp
  | 17 => .rdTimer
  | 18 | 19 => .rdRsvd18To19 idx
  | 20 | 21 | 22 | 23 => .rdRsvd20To23 idx
  | _ => .rdRsvd24To31 idx

/-- The operation of a command word (CMD, R83: an exact match of all 32 bits), and the reserved rows, told
apart by the highest bit set (R84). -/
def decodeCommand (w : Word) : Instr :=
  match w.toNat with
  | 0 => .nop
  | 1 => .start
  | 2 => .decode
  | 3 => .interpret
  | 4 => .clear
  | 5 => .cmdRsvd5
  | n =>
    if n < 8 then .cmdRsvd6To7 w
    else if n < 16 then .cmdRsvdB3 w
    else if n < 32 then .cmdRsvdB4 w
    else if n < 64 then .cmdRsvdB5 w
    else if n < 128 then .cmdRsvdB6 w
    else if n < 256 then .cmdRsvdB7 w
    else if n < 512 then .cmdRsvdB8 w
    else if n < 1024 then .cmdRsvdB9 w
    else if n < 2048 then .cmdRsvdB10 w
    else if n < 4096 then .cmdRsvdB11 w
    else if n < 8192 then .cmdRsvdB12 w
    else if n < 16384 then .cmdRsvdB13 w
    else if n < 32768 then .cmdRsvdB14 w
    else if n < 65536 then .cmdRsvdB15 w
    else if n < 131072 then .cmdRsvdB16 w
    else if n < 262144 then .cmdRsvdB17 w
    else if n < 524288 then .cmdRsvdB18 w
    else if n < 1048576 then .cmdRsvdB19 w
    else if n < 2097152 then .cmdRsvdB20 w
    else if n < 4194304 then .cmdRsvdB21 w
    else if n < 8388608 then .cmdRsvdB22 w
    else if n < 16777216 then .cmdRsvdB23 w
    else if n < 33554432 then .cmdRsvdB24 w
    else if n < 67108864 then .cmdRsvdB25 w
    else if n < 134217728 then .cmdRsvdB26 w
    else if n < 268435456 then .cmdRsvdB27 w
    else if n < 536870912 then .cmdRsvdB28 w
    else if n < 1073741824 then .cmdRsvdB29 w
    else if n < 2147483648 then .cmdRsvdB30 w
    else .cmdRsvdB31 w

/-- The operation of a write of `wdata` to word index `idx` (BUSW, or CMD at index 3, R81). -/
def decodeWrite (idx : Index) (wdata : Word) : Instr :=
  match idx.toNat with
  | 0 => .wrId wdata
  | 1 => .wrParam wdata
  | 2 => .wrCtrl wdata
  | 3 => decodeCommand wdata
  | 4 => .wrStatus wdata
  | 5 => .wrStartLow wdata
  | 6 => .wrRelease wdata
  | 7 => .wrWindow wdata
  | 8 => .wrThresh wdata
  | 9 => .wrEdgeCount wdata
  | 10 => .wrBitcount wdata
  | 11 => .wrTsData wdata
  | 12 => .wrFifoLevel wdata
  | 13 => .wrRawLo wdata
  | 14 => .wrRawHi wdata
  | 15 => .wrHum wdata
  | 16 => .wrTemp wdata
  | 17 => .wrTimer wdata
  | 18 | 19 => .wrRsvd18To19 idx wdata
  | 20 | 21 | 22 | 23 => .wrRsvd20To23 idx wdata
  | _ => .wrRsvd24To31 idx wdata

/-- The decoder: every access word is exactly one operation (R81), whatever the block's state (R87). -/
def decodeWord (a : AccessWord) : Instr :=
  if accessWrite a then decodeWrite (accessIndex a) (accessData a) else decodeRead (accessIndex a)

/-! ## The encoder -/

/-- The access word of a read: WDATA is 0 by convention (R80). -/
def encodeRead (idx : Index) : AccessWord := accessWord false idx 0

/-- The access word of a write (R80). -/
def encodeWrite (idx : Index) (wdata : Word) : AccessWord := accessWord true idx wdata

/-- The access word of a command: a write to CMD, word index 3 (R83). -/
def encodeCommand (w : Word) : AccessWord := accessWord true 3 w

/-- The encoder, written from the table of 30_encoding.md R80 to R85. -/
def encodeWord : Instr → AccessWord
  | .rdId => encodeRead 0
  | .rdParam => encodeRead 1
  | .rdCtrl => encodeRead 2
  | .rdCmd => encodeRead 3
  | .rdStatus => encodeRead 4
  | .rdStartLow => encodeRead 5
  | .rdRelease => encodeRead 6
  | .rdWindow => encodeRead 7
  | .rdThresh => encodeRead 8
  | .rdEdgeCount => encodeRead 9
  | .rdBitcount => encodeRead 10
  | .rdTsData => encodeRead 11
  | .rdFifoLevel => encodeRead 12
  | .rdRawLo => encodeRead 13
  | .rdRawHi => encodeRead 14
  | .rdHum => encodeRead 15
  | .rdTemp => encodeRead 16
  | .rdTimer => encodeRead 17
  | .rdRsvd18To19 idx => encodeRead idx
  | .rdRsvd20To23 idx => encodeRead idx
  | .rdRsvd24To31 idx => encodeRead idx
  | .wrId wdata => encodeWrite 0 wdata
  | .wrParam wdata => encodeWrite 1 wdata
  | .wrCtrl wdata => encodeWrite 2 wdata
  | .wrStatus wdata => encodeWrite 4 wdata
  | .wrStartLow wdata => encodeWrite 5 wdata
  | .wrRelease wdata => encodeWrite 6 wdata
  | .wrWindow wdata => encodeWrite 7 wdata
  | .wrThresh wdata => encodeWrite 8 wdata
  | .wrEdgeCount wdata => encodeWrite 9 wdata
  | .wrBitcount wdata => encodeWrite 10 wdata
  | .wrTsData wdata => encodeWrite 11 wdata
  | .wrFifoLevel wdata => encodeWrite 12 wdata
  | .wrRawLo wdata => encodeWrite 13 wdata
  | .wrRawHi wdata => encodeWrite 14 wdata
  | .wrHum wdata => encodeWrite 15 wdata
  | .wrTemp wdata => encodeWrite 16 wdata
  | .wrTimer wdata => encodeWrite 17 wdata
  | .wrRsvd18To19 idx wdata => encodeWrite idx wdata
  | .wrRsvd20To23 idx wdata => encodeWrite idx wdata
  | .wrRsvd24To31 idx wdata => encodeWrite idx wdata
  | .nop => encodeCommand 0
  | .start => encodeCommand 1
  | .decode => encodeCommand 2
  | .interpret => encodeCommand 3
  | .clear => encodeCommand 4
  | .cmdRsvdB31 cmdword => encodeCommand cmdword
  | .cmdRsvdB30 cmdword => encodeCommand cmdword
  | .cmdRsvdB29 cmdword => encodeCommand cmdword
  | .cmdRsvdB28 cmdword => encodeCommand cmdword
  | .cmdRsvdB27 cmdword => encodeCommand cmdword
  | .cmdRsvdB26 cmdword => encodeCommand cmdword
  | .cmdRsvdB25 cmdword => encodeCommand cmdword
  | .cmdRsvdB24 cmdword => encodeCommand cmdword
  | .cmdRsvdB23 cmdword => encodeCommand cmdword
  | .cmdRsvdB22 cmdword => encodeCommand cmdword
  | .cmdRsvdB21 cmdword => encodeCommand cmdword
  | .cmdRsvdB20 cmdword => encodeCommand cmdword
  | .cmdRsvdB19 cmdword => encodeCommand cmdword
  | .cmdRsvdB18 cmdword => encodeCommand cmdword
  | .cmdRsvdB17 cmdword => encodeCommand cmdword
  | .cmdRsvdB16 cmdword => encodeCommand cmdword
  | .cmdRsvdB15 cmdword => encodeCommand cmdword
  | .cmdRsvdB14 cmdword => encodeCommand cmdword
  | .cmdRsvdB13 cmdword => encodeCommand cmdword
  | .cmdRsvdB12 cmdword => encodeCommand cmdword
  | .cmdRsvdB11 cmdword => encodeCommand cmdword
  | .cmdRsvdB10 cmdword => encodeCommand cmdword
  | .cmdRsvdB9 cmdword => encodeCommand cmdword
  | .cmdRsvdB8 cmdword => encodeCommand cmdword
  | .cmdRsvdB7 cmdword => encodeCommand cmdword
  | .cmdRsvdB6 cmdword => encodeCommand cmdword
  | .cmdRsvdB5 cmdword => encodeCommand cmdword
  | .cmdRsvdB4 cmdword => encodeCommand cmdword
  | .cmdRsvdB3 cmdword => encodeCommand cmdword
  | .cmdRsvd6To7 cmdword => encodeCommand cmdword
  | .cmdRsvd5 => encodeCommand 5

/-! ## The opcode table -/

/-- A row of spec/opcode_table.json: an access word `a` is the row's when `a AND mask = pattern` (R81). -/
structure OpcodeRow where
  mnemonic : String
  pattern : AccessWord
  mask : AccessWord
  deriving DecidableEq, Repr

/-- The row takes the access word. -/
def OpcodeRow.takes (r : OpcodeRow) (a : AccessWord) : Bool := a &&& r.mask == r.pattern

/-- The row of an operation, letter for letter and bit for bit as the table has it. -/
def rowOf : Instr → OpcodeRow
  | .rdId => ⟨"RD_ID", 0x0000000000, 0x3F00000000⟩
  | .rdParam => ⟨"RD_PARAM", 0x0100000000, 0x3F00000000⟩
  | .rdCtrl => ⟨"RD_CTRL", 0x0200000000, 0x3F00000000⟩
  | .rdCmd => ⟨"RD_CMD", 0x0300000000, 0x3F00000000⟩
  | .rdStatus => ⟨"RD_STATUS", 0x0400000000, 0x3F00000000⟩
  | .rdStartLow => ⟨"RD_START_LOW", 0x0500000000, 0x3F00000000⟩
  | .rdRelease => ⟨"RD_RELEASE", 0x0600000000, 0x3F00000000⟩
  | .rdWindow => ⟨"RD_WINDOW", 0x0700000000, 0x3F00000000⟩
  | .rdThresh => ⟨"RD_THRESH", 0x0800000000, 0x3F00000000⟩
  | .rdEdgeCount => ⟨"RD_EDGE_COUNT", 0x0900000000, 0x3F00000000⟩
  | .rdBitcount => ⟨"RD_BITCOUNT", 0x0A00000000, 0x3F00000000⟩
  | .rdTsData => ⟨"RD_TS_DATA", 0x0B00000000, 0x3F00000000⟩
  | .rdFifoLevel => ⟨"RD_FIFO_LEVEL", 0x0C00000000, 0x3F00000000⟩
  | .rdRawLo => ⟨"RD_RAW_LO", 0x0D00000000, 0x3F00000000⟩
  | .rdRawHi => ⟨"RD_RAW_HI", 0x0E00000000, 0x3F00000000⟩
  | .rdHum => ⟨"RD_HUM", 0x0F00000000, 0x3F00000000⟩
  | .rdTemp => ⟨"RD_TEMP", 0x1000000000, 0x3F00000000⟩
  | .rdTimer => ⟨"RD_TIMER", 0x1100000000, 0x3F00000000⟩
  | .rdRsvd18To19 _ => ⟨"RD_RSVD_18_19", 0x1200000000, 0x3E00000000⟩
  | .rdRsvd20To23 _ => ⟨"RD_RSVD_20_23", 0x1400000000, 0x3C00000000⟩
  | .rdRsvd24To31 _ => ⟨"RD_RSVD_24_31", 0x1800000000, 0x3800000000⟩
  | .wrId _ => ⟨"WR_ID", 0x2000000000, 0x3F00000000⟩
  | .wrParam _ => ⟨"WR_PARAM", 0x2100000000, 0x3F00000000⟩
  | .wrCtrl _ => ⟨"WR_CTRL", 0x2200000000, 0x3F00000000⟩
  | .wrStatus _ => ⟨"WR_STATUS", 0x2400000000, 0x3F00000000⟩
  | .wrStartLow _ => ⟨"WR_START_LOW", 0x2500000000, 0x3F00000000⟩
  | .wrRelease _ => ⟨"WR_RELEASE", 0x2600000000, 0x3F00000000⟩
  | .wrWindow _ => ⟨"WR_WINDOW", 0x2700000000, 0x3F00000000⟩
  | .wrThresh _ => ⟨"WR_THRESH", 0x2800000000, 0x3F00000000⟩
  | .wrEdgeCount _ => ⟨"WR_EDGE_COUNT", 0x2900000000, 0x3F00000000⟩
  | .wrBitcount _ => ⟨"WR_BITCOUNT", 0x2A00000000, 0x3F00000000⟩
  | .wrTsData _ => ⟨"WR_TS_DATA", 0x2B00000000, 0x3F00000000⟩
  | .wrFifoLevel _ => ⟨"WR_FIFO_LEVEL", 0x2C00000000, 0x3F00000000⟩
  | .wrRawLo _ => ⟨"WR_RAW_LO", 0x2D00000000, 0x3F00000000⟩
  | .wrRawHi _ => ⟨"WR_RAW_HI", 0x2E00000000, 0x3F00000000⟩
  | .wrHum _ => ⟨"WR_HUM", 0x2F00000000, 0x3F00000000⟩
  | .wrTemp _ => ⟨"WR_TEMP", 0x3000000000, 0x3F00000000⟩
  | .wrTimer _ => ⟨"WR_TIMER", 0x3100000000, 0x3F00000000⟩
  | .wrRsvd18To19 _ _ => ⟨"WR_RSVD_18_19", 0x3200000000, 0x3E00000000⟩
  | .wrRsvd20To23 _ _ => ⟨"WR_RSVD_20_23", 0x3400000000, 0x3C00000000⟩
  | .wrRsvd24To31 _ _ => ⟨"WR_RSVD_24_31", 0x3800000000, 0x3800000000⟩
  | .nop => ⟨"NOP", 0x2300000000, 0x3FFFFFFFFF⟩
  | .start => ⟨"START", 0x2300000001, 0x3FFFFFFFFF⟩
  | .decode => ⟨"DECODE", 0x2300000002, 0x3FFFFFFFFF⟩
  | .interpret => ⟨"INTERPRET", 0x2300000003, 0x3FFFFFFFFF⟩
  | .clear => ⟨"CLEAR", 0x2300000004, 0x3FFFFFFFFF⟩
  | .cmdRsvdB31 _ => ⟨"CMD_RSVD_B31", 0x2380000000, 0x3F80000000⟩
  | .cmdRsvdB30 _ => ⟨"CMD_RSVD_B30", 0x2340000000, 0x3FC0000000⟩
  | .cmdRsvdB29 _ => ⟨"CMD_RSVD_B29", 0x2320000000, 0x3FE0000000⟩
  | .cmdRsvdB28 _ => ⟨"CMD_RSVD_B28", 0x2310000000, 0x3FF0000000⟩
  | .cmdRsvdB27 _ => ⟨"CMD_RSVD_B27", 0x2308000000, 0x3FF8000000⟩
  | .cmdRsvdB26 _ => ⟨"CMD_RSVD_B26", 0x2304000000, 0x3FFC000000⟩
  | .cmdRsvdB25 _ => ⟨"CMD_RSVD_B25", 0x2302000000, 0x3FFE000000⟩
  | .cmdRsvdB24 _ => ⟨"CMD_RSVD_B24", 0x2301000000, 0x3FFF000000⟩
  | .cmdRsvdB23 _ => ⟨"CMD_RSVD_B23", 0x2300800000, 0x3FFF800000⟩
  | .cmdRsvdB22 _ => ⟨"CMD_RSVD_B22", 0x2300400000, 0x3FFFC00000⟩
  | .cmdRsvdB21 _ => ⟨"CMD_RSVD_B21", 0x2300200000, 0x3FFFE00000⟩
  | .cmdRsvdB20 _ => ⟨"CMD_RSVD_B20", 0x2300100000, 0x3FFFF00000⟩
  | .cmdRsvdB19 _ => ⟨"CMD_RSVD_B19", 0x2300080000, 0x3FFFF80000⟩
  | .cmdRsvdB18 _ => ⟨"CMD_RSVD_B18", 0x2300040000, 0x3FFFFC0000⟩
  | .cmdRsvdB17 _ => ⟨"CMD_RSVD_B17", 0x2300020000, 0x3FFFFE0000⟩
  | .cmdRsvdB16 _ => ⟨"CMD_RSVD_B16", 0x2300010000, 0x3FFFFF0000⟩
  | .cmdRsvdB15 _ => ⟨"CMD_RSVD_B15", 0x2300008000, 0x3FFFFF8000⟩
  | .cmdRsvdB14 _ => ⟨"CMD_RSVD_B14", 0x2300004000, 0x3FFFFFC000⟩
  | .cmdRsvdB13 _ => ⟨"CMD_RSVD_B13", 0x2300002000, 0x3FFFFFE000⟩
  | .cmdRsvdB12 _ => ⟨"CMD_RSVD_B12", 0x2300001000, 0x3FFFFFF000⟩
  | .cmdRsvdB11 _ => ⟨"CMD_RSVD_B11", 0x2300000800, 0x3FFFFFF800⟩
  | .cmdRsvdB10 _ => ⟨"CMD_RSVD_B10", 0x2300000400, 0x3FFFFFFC00⟩
  | .cmdRsvdB9 _ => ⟨"CMD_RSVD_B9", 0x2300000200, 0x3FFFFFFE00⟩
  | .cmdRsvdB8 _ => ⟨"CMD_RSVD_B8", 0x2300000100, 0x3FFFFFFF00⟩
  | .cmdRsvdB7 _ => ⟨"CMD_RSVD_B7", 0x2300000080, 0x3FFFFFFF80⟩
  | .cmdRsvdB6 _ => ⟨"CMD_RSVD_B6", 0x2300000040, 0x3FFFFFFFC0⟩
  | .cmdRsvdB5 _ => ⟨"CMD_RSVD_B5", 0x2300000020, 0x3FFFFFFFE0⟩
  | .cmdRsvdB4 _ => ⟨"CMD_RSVD_B4", 0x2300000010, 0x3FFFFFFFF0⟩
  | .cmdRsvdB3 _ => ⟨"CMD_RSVD_B3", 0x2300000008, 0x3FFFFFFFF8⟩
  | .cmdRsvd6To7 _ => ⟨"CMD_RSVD_6_7", 0x2300000006, 0x3FFFFFFFFE⟩
  | .cmdRsvd5 => ⟨"CMD_RSVD_5", 0x2300000005, 0x3FFFFFFFFF⟩

/-- The read rows of the table, each by an operation of it. -/
def readRows : List OpcodeRow :=
  ([
    .rdId, .rdParam, .rdCtrl, .rdCmd, .rdStatus, .rdStartLow, .rdRelease, .rdWindow, .rdThresh,
    .rdEdgeCount, .rdBitcount, .rdTsData, .rdFifoLevel, .rdRawLo, .rdRawHi, .rdHum, .rdTemp, .rdTimer,
    .rdRsvd18To19 18, .rdRsvd20To23 20, .rdRsvd24To31 24] : List Instr).map rowOf

/-- The write rows of the table. -/
def writeRows : List OpcodeRow :=
  ([
    .wrId 0, .wrParam 0, .wrCtrl 0, .wrStatus 0, .wrStartLow 0, .wrRelease 0, .wrWindow 0, .wrThresh 0,
    .wrEdgeCount 0, .wrBitcount 0, .wrTsData 0, .wrFifoLevel 0, .wrRawLo 0, .wrRawHi 0, .wrHum 0,
    .wrTemp 0, .wrTimer 0, .wrRsvd18To19 18 0, .wrRsvd20To23 20 0, .wrRsvd24To31 24 0] : List Instr).map rowOf

/-- The command rows of the table. -/
def commandRows : List OpcodeRow :=
  ([
    .nop, .start, .decode, .interpret, .clear, .cmdRsvdB31 0x80000000, .cmdRsvdB30 0x40000000,
    .cmdRsvdB29 0x20000000, .cmdRsvdB28 0x10000000, .cmdRsvdB27 0x8000000, .cmdRsvdB26 0x4000000,
    .cmdRsvdB25 0x2000000, .cmdRsvdB24 0x1000000, .cmdRsvdB23 0x800000, .cmdRsvdB22 0x400000,
    .cmdRsvdB21 0x200000, .cmdRsvdB20 0x100000, .cmdRsvdB19 0x80000, .cmdRsvdB18 0x40000,
    .cmdRsvdB17 0x20000, .cmdRsvdB16 0x10000, .cmdRsvdB15 0x8000, .cmdRsvdB14 0x4000, .cmdRsvdB13 0x2000,
    .cmdRsvdB12 0x1000, .cmdRsvdB11 0x800, .cmdRsvdB10 0x400, .cmdRsvdB9 0x200, .cmdRsvdB8 0x100,
    .cmdRsvdB7 0x80, .cmdRsvdB6 0x40, .cmdRsvdB5 0x20, .cmdRsvdB4 0x10, .cmdRsvdB3 0x8, .cmdRsvd6To7 0x6,
    .cmdRsvd5] : List Instr).map rowOf

/-- spec/opcode_table.json: 77 rows. -/
def opcodeTable : List OpcodeRow := readRows ++ writeRows ++ commandRows

/-! ## Bytes

The port carries an access word, not bytes. Where bytes are wanted, the access word is laid out as five
bytes, the least significant first, bits 39:38 zero. DESIGN CHOICE, safe, log 10. -/

/-- Why bytes are no access word. -/
inductive DecodeError where
  /-- Fewer or more than five bytes. -/
  | wrongLength
  /-- A bit above bit 37 is set. -/
  | bitsAbove37
  deriving DecidableEq, Repr

/-- The `n` low bytes of a number, the least significant first. -/
def bytesOf : Nat → Nat → List Byte
  | 0, _ => []
  | n + 1, v => BitVec.ofNat 8 v :: bytesOf n (v / 256)

/-- The number that bytes spell, the least significant first. -/
def numberOf : List Byte → Nat
  | [] => 0
  | b :: bs => b.toNat + 256 * numberOf bs

/-- The decoder on bytes: five bytes that spell an access word, or a rejection by name. -/
def decodeBytes (bs : List Byte) : Except DecodeError Instr :=
  if bs.length ≠ 5 then .error .wrongLength
  else if 2 ^ 38 ≤ numberOf bs then .error .bitsAbove37
  else .ok (decodeWord (BitVec.ofNat 38 (numberOf bs)))

/-- An operation's five bytes. -/
def encodeBytes (i : Instr) : List Byte := bytesOf 5 (encodeWord i).toNat

/-- The operation the decoder reads from a table word: `w` numbered as spec/opcode_table.json numbers it,
bit 0 the least significant; the bits from `nbits` up are 0. -/
def decodeTableWord (nbits w : Nat) : Option Instr :=
  if w % 2 ^ nbits < 2 ^ 40 then (decodeBytes (bytesOf 5 (w % 2 ^ nbits))).toOption else none

end Sys2Proof
end

