-- ==== Sys2Proof/Config.lean ====
section
/-! DEFINITION. What an instance of the block fixes (00_scope.md R7, R8, 10_state.md R42), the events the
outside world can bring (00_scope.md R10, 70_reset_and_hazards.md R250), and the free values: the opaque
constants, of which no proof can know a value. -/

namespace Sys2Proof

/-- The size of one access on the platform bus. -/
inductive AccessSize where
  | byte
  | half
  | word
  | double
  deriving DecidableEq, Repr, Inhabited

/-- The number of bytes of an access. -/
def AccessSize.bytes : AccessSize → Nat
  | .byte => 1
  | .half => 2
  | .word => 4
  | .double => 8

/-- An access as the platform bus carries it: an address, a size, the direction (`true` = write) and the
written word (20_memory.md R60, R61). -/
structure BusAccess where
  addr : Nat
  size : AccessSize
  write : Bool
  wdata : Word
  deriving DecidableEq, Repr, Inhabited

/-- One atomic step of one agent (00_scope.md R10, 20_memory.md R68, R70). -/
inductive Event where
  /-- The Host agent: one access at the register port, as its 38-bit access word (20_memory.md R60). -/
  | port (w : AccessWord)
  /-- The Host agent: one access on the platform bus, before the window is decoded (20_memory.md R61). -/
  | bus (a : BusAccess)
  /-- The Tick agent, with the level the Line agent supplies (41_sampler.md R143). -/
  | tick (level : Bool)
  /-- The reset input is asserted (70_reset_and_hazards.md R250). -/
  | reset
  deriving DecidableEq, Repr, Inhabited

namespace Config

/-- The ID constant (10_state.md R42). -/
def idValue : Word := 0x44485453

/-- PARAM.REV, the interface revision (10_state.md R42). -/
def revision : Byte := 0x01

/-- The smallest legal FIFO_DEPTH (00_scope.md R7). -/
def minFifoDepth : Nat := 42

/-- The number of legal FIFO_DEPTH values, 42 .. 255 (00_scope.md R7). -/
def fifoDepths : Nat := 214

/-- The largest edge count: N saturates there (10_state.md R36). -/
def maxEdgeCount : Nat := 0xFFFF

/-- The window's size in bytes: 32 words (20_memory.md R61). -/
def windowBytes : Nat := 128

/-- FREE VALUE (00_scope.md R7, OPEN): which 128-byte block of the address space holds the window. -/
opaque baseBlock : Nat

/-- BASE, aligned to 128 bytes (00_scope.md R7). DESIGN CHOICE, safe, log 2. -/
def base : Nat := windowBytes * baseBlock

/-- FREE VALUE (00_scope.md R7, OPEN): system clocks per tick, less one. -/
opaque clocksPerTickLessOne : Nat

/-- CLK_PER_TICK, at least 1 (00_scope.md R7). No rule reads it (93 I10). DESIGN CHOICE, safe, log 2. -/
def clkPerTick : Nat := clocksPerTickLessOne + 1

/-- FREE VALUE (93 I1): what an entry of EDGE that nothing has written since the latest reset holds, by
reset epoch and index. DESIGN CHOICE, safe, log 4. -/
opaque edgeUnwritten : Nat → Nat → Half

/-- FREE VALUE (93 I7, I8): the event that comes next when State lists none, by how many were drawn
before. DESIGN CHOICE, safe, log 3. -/
opaque freeEvent : Nat → Event

end Config

end Sys2Proof
end

