-- ==== Sys2Proof/Machine/State.lean ====
section
/-! DEFINITION. The state of the block: the tuple of 10_state.md R20, the model's own fields beside it, the
reasons a step can stop, and the state after reset (10_state.md R46). Derived values (R44) are functions,
in Machine/Flags.lean and Machine/Operands.lean. -/

namespace Sys2Proof.Machine

/-- CTRL.MODEL (10_state.md R22). -/
inductive SensorModel where
  /-- 0: DHT11 interpretation. -/
  | dht11
  /-- 1: DHT22 interpretation. -/
  | dht22
  deriving DecidableEq, Repr

/-- CTRL.CSUM_MODE (10_state.md R22). -/
inductive CsumMode where
  /-- 0: the bitwise-AND test (43_checksum.md R191). -/
  | andTest
  /-- 1: equality modulo 256 (43_checksum.md R192). -/
  | modTest
  deriving DecidableEq, Repr

/-- RESULT (10_state.md R29). Codes 5 .. 7 are never produced (30_encoding.md R86): log 8. -/
inductive DecodeResult where
  | none
  | success
  | noResponse
  | incorrectByteCount
  | checksumMismatch
  deriving DecidableEq, Repr

/-- PHASE (10_state.md R30). Codes 5 .. 7 are never reached (30_encoding.md R86): log 8. -/
inductive Phase where
  | idle
  | start
  | release
  | capture
  | restore
  deriving DecidableEq, Repr

/-- RAW[0..4], the frame bytes: humidity high and low, temperature high and low, checksum (10_state.md
R39). -/
structure RawFrame where
  b0 : Byte
  b1 : Byte
  b2 : Byte
  b3 : Byte
  b4 : Byte
  deriving DecidableEq, Repr

/-- The five zero bytes. -/
def RawFrame.zero : RawFrame := ⟨0, 0, 0, 0, 0⟩

/-- The state of the block (10_state.md R20), and after it the model's own fields. -/
structure State where
  /-- CTRL.MODEL (R22). -/
  model : SensorModel
  /-- CTRL.CSUM_MODE (R22). -/
  csumMode : CsumMode
  /-- CTRL.IE (R22). -/
  ie : Bool
  /-- START_LOW, in ticks (R23). -/
  startLow : Half
  /-- RELEASE, in ticks (R24). -/
  release : Byte
  /-- WINDOW, in ticks (R25). -/
  window : Half
  /-- THRESH, in ticks (R26). -/
  thresh : Half
  /-- STATUS.DONE (R27, R28). -/
  done : Bool
  /-- STATUS.CMDERR (R27, R28). -/
  cmdErr : Bool
  /-- STATUS.WRERR (R27, R28). -/
  wrErr : Bool
  /-- STATUS.RDERR (R27, R28). -/
  rdErr : Bool
  /-- STATUS.OVF (R27, R28). -/
  ovf : Bool
  /-- RESULT (R29). -/
  result : DecodeResult
  /-- PHASE (R30). -/
  phase : Phase
  /-- CNT, hidden: the ticks already spent in the phase (R31). -/
  cnt : Half
  /-- PREV, hidden: the level of the previous capture sample (R32). -/
  prev : Bool
  /-- LINE: the level sampled at the most recent tick (R33). -/
  line : Bool
  /-- OE: the block drives the line (R34). -/
  oe : Bool
  /-- OUT: the driven level (R34). -/
  out : Bool
  /-- EDGE, the entries written since the latest reset, by index (R35): indices strictly rising. -/
  edge : List (Nat × Half)
  /-- S, the number of entries stored (R35). -/
  fill : Nat
  /-- RPTR, the host's read position (R35). -/
  rptr : Nat
  /-- N, EDGE_COUNT (R36). -/
  edgeCount : Half
  /-- BITCOUNT (R38). -/
  bitCount : Half
  /-- RAW[0..4] (R39). -/
  raw : RawFrame
  /-- HUM, two's complement hundredths (R40). -/
  hum : Word
  /-- TEMP, two's complement hundredths (R40). -/
  temp : Word
  /-- TIMER (R41). -/
  timer : Word
  /-- The model's own: FIFO_DEPTH − 42, the parameter of 00_scope.md R7; no step changes it (log 1). -/
  extraDepth : Fin 214
  /-- The model's own: the resets seen, which the free values of unwritten EDGE entries depend on (log 4). -/
  edgeEpoch : Nat
  /-- The model's own: RDATA of the latest host read (20_memory.md R60; log 6). -/
  rdata : Option Word
  /-- The model's own: the coming events, the next one first (log 3). -/
  events : List Event
  /-- The model's own: the events drawn from the free schedule so far (log 3). -/
  drawn : Nat
  deriving DecidableEq, Repr

/-- Why a step can stop with a fault: never (60_exceptions.md R220: no synchronous exception, fault or bus
error). Nothing raises one. Log 7, safe. -/
inductive Fault where
  deriving DecidableEq, Repr

/-- Why a step can be refused. -/
inductive Refusal where
  /-- An operation without a meaning in this model. No arm raises it: every row has its meaning. Safe. -/
  | notModelled (mnemonic : String)
  /-- A bus access that touches the window and is no aligned 32-bit access, raised by
  Machine/Port.lean's routing: 20_memory.md R67 says a model must refuse it. Safe, log 5. -/
  | undefinedAccess
  deriving DecidableEq, Repr

/-- What a step of this machine answers. -/
abbrev Answer := Host.Outcome State Fault Refusal

/-- The state after reset, by the table of 10_state.md R46; the model's own fields as log 1, 3, 4 and 6
name them. -/
def State.reset : State where
  model := .dht11
  csumMode := .andTest
  ie := false
  startLow := 18000
  release := 1
  window := 6000
  thresh := 100
  done := false
  cmdErr := false
  wrErr := false
  rdErr := false
  ovf := false
  result := .none
  phase := .idle
  cnt := 0
  prev := true
  line := true
  oe := false
  out := true
  edge := []
  fill := 0
  rptr := 0
  edgeCount := 0
  bitCount := 0
  raw := .zero
  hum := 0
  temp := 0
  timer := 0
  extraDepth := 22
  edgeEpoch := 0
  rdata := none
  events := []
  drawn := 0

end Sys2Proof.Machine
end

