-- ==== Sys2Proof/Machine/Flags.lean ====
section
/-! DEFINITION. STATUS: its codes, its derived bits, its read layout and the setting and clearing of its
sticky flags (10_state.md R27 to R30, R44, 40_register_access.md R105, R123). -/

namespace Sys2Proof.Machine

/-- RESULT's code (10_state.md R29). -/
def DecodeResult.code : DecodeResult → BitVec 3
  | .none => 0
  | .success => 1
  | .noResponse => 2
  | .incorrectByteCount => 3
  | .checksumMismatch => 4

/-- PHASE's code (10_state.md R30). -/
def Phase.code : Phase → BitVec 3
  | .idle => 0
  | .start => 1
  | .release => 2
  | .capture => 3
  | .restore => 4

/-- BUSY: PHASE is not IDLE (10_state.md R44). -/
def State.busy (s : State) : Bool := decide (s.phase ≠ .idle)

/-- VALID: RESULT is SUCCESS (10_state.md R44). -/
def State.valid (s : State) : Bool := decide (s.result = .success)

/-- IRQ, the level of the interrupt output (10_state.md R44, 60_exceptions.md R223). -/
def State.irq (s : State) : Bool := s.done && s.ie

/-- What a read of STATUS returns, most significant bit first (40_register_access.md R105). -/
def State.statusWord (s : State) : Word :=
  (0 : BitVec 13) ++ BitVec.ofBool s.out ++ BitVec.ofBool s.oe ++ BitVec.ofBool s.line
    ++ (0 : BitVec 1) ++ s.phase.code ++ (0 : BitVec 1) ++ s.result.code
    ++ BitVec.ofBool s.irq ++ BitVec.ofBool s.ovf ++ BitVec.ofBool s.rdErr ++ BitVec.ofBool s.wrErr
    ++ BitVec.ofBool s.cmdErr ++ BitVec.ofBool s.valid ++ BitVec.ofBool s.done ++ BitVec.ofBool s.busy

/-- `flag(CMDERR)` (10_state.md R28, 60_exceptions.md R222). -/
def flagCmdErr (s : State) : State := { s with cmdErr := true }

/-- `flag(WRERR)` (10_state.md R28, 60_exceptions.md R222). -/
def flagWrErr (s : State) : State := { s with wrErr := true }

/-- `flag(RDERR)` (10_state.md R28, 60_exceptions.md R222). -/
def flagRdErr (s : State) : State := { s with rdErr := true }

/-- The end of DECODE and INTERPRET and of a transaction: DONE is set (10_state.md R28). -/
def setDone (s : State) : State := { s with done := true }

/-- DECODE and INTERPRET first clear DONE (42_frame_decoder.md R178, 44_interpreter.md R207). -/
def clearDone (s : State) : State := { s with done := false }

/-- Write one to clear: a flag keeps its value unless the written bit is 1 (00_scope.md R15, W1C). -/
def w1c (written flag : Bool) : Bool := flag && !written

/-- A write of STATUS: the five W1C bits, every other bit ignored (40_register_access.md R123). -/
def clearFlags (wdata : Word) (s : State) : State :=
  { s with
    done := w1c (wdata.getLsbD 1) s.done
    cmdErr := w1c (wdata.getLsbD 3) s.cmdErr
    wrErr := w1c (wdata.getLsbD 4) s.wrErr
    rdErr := w1c (wdata.getLsbD 5) s.rdErr
    ovf := w1c (wdata.getLsbD 6) s.ovf }

end Sys2Proof.Machine
end

