-- ==== Sys2Proof/Machine/Ops.lean ====
section
/-! DEFINITION. The shared operations over the state: the FIFO storage EDGE in its canonical sparse form
(10_state.md R35), the answer of a read (20_memory.md R60), the BUSY guards (40_register_access.md R100,
R122), ClearData (R140) and Reset (70_reset_and_hazards.md R250).

There is no operation that takes an exception and none that returns from one: the block has no trap
mechanism (60_exceptions.md R220, R228). What stands in their place are the sticky flags and the IRQ level of
Machine/Flags.lean. -/

namespace Sys2Proof.Machine

/-! ## The FIFO storage -/

/-- FIFO_DEPTH, 42 .. 255 (00_scope.md R7). -/
def State.fifoDepth (s : State) : Nat := Config.minFifoDepth + s.extraDepth.val

/-- The entry listed at an index. -/
def edgeLookup (i : Nat) : List (Nat × Half) → Option Half
  | [] => none
  | (k, v) :: es => if k = i then some v else edgeLookup i es

/-- `EDGE[i]`: the listed value, else a free value (93 I1; log 4). -/
def State.edgeAt (s : State) (i : Nat) : Half :=
  (edgeLookup i s.edge).getD (Config.edgeUnwritten s.edgeEpoch i)

/-- `EDGE[i] <- v`, keeping the indices strictly rising. -/
def edgeInsert (i : Nat) (v : Half) : List (Nat × Half) → List (Nat × Half)
  | [] => [(i, v)]
  | (k, u) :: es =>
    if i < k then (i, v) :: (k, u) :: es
    else if i = k then (i, v) :: es
    else (k, u) :: edgeInsert i v es

/-- The canonical form of EDGE: indices strictly rising, all of them below FIFO_DEPTH. -/
def edgeWf (depth : Nat) (es : List (Nat × Half)) : Bool :=
  decide (es.Pairwise fun a b => a.1 < b.1) && es.all fun e => decide (e.1 < depth)

/-- RecordEdge(t) (41_sampler.md R150): append one timestamp, or flag OVF when the FIFO is full, and count
the edge, saturating. -/
def recordEdge (t : Half) (s : State) : State :=
  { s with
    edge := if s.fill < s.fifoDepth then edgeInsert s.fill t s.edge else s.edge
    fill := if s.fill < s.fifoDepth then s.fill + 1 else s.fill
    ovf := if s.fill < s.fifoDepth then s.ovf else true
    edgeCount := if s.edgeCount.toNat < Config.maxEdgeCount then s.edgeCount + 1 else s.edgeCount }

/-! ## Reads and guards -/

/-- A host read returns `v` (20_memory.md R60). -/
def respond (v : Word) (s : State) : State := { s with rdata := some v }

/-- A write that BUSY rejects with WRERR and nothing else (40_register_access.md R100). -/
def unlessBusyWrite (write : State) (s : State) : State :=
  if s.busy then flagWrErr s else write

/-- A command that BUSY rejects with CMDERR and nothing else (40_register_access.md R122). -/
def unlessBusyCommand (command : State) (s : State) : State :=
  if s.busy then flagCmdErr s else command

/-! ## ClearData and Reset -/

/-- ClearData(), shared by START and CLEAR (40_register_access.md R140). -/
def clearData (s : State) : State :=
  { s with
    fill := 0
    rptr := 0
    edgeCount := 0
    bitCount := 0
    result := .none
    raw := .zero
    hum := 0
    temp := 0
    done := false
    ovf := false }

/-- Reset() (70_reset_and_hazards.md R250): every component of 10_state.md R20 at its value of R46, whatever
the phase; EDGE unspecified, so a new epoch of free values. The instance parameter and the fields that are
not the block's (the response already given, the coming events) stay. Log 12. -/
def resetBlock (s : State) : State :=
  { State.reset with
    extraDepth := s.extraDepth
    edgeEpoch := s.edgeEpoch + 1
    rdata := s.rdata
    events := s.events
    drawn := s.drawn }

end Sys2Proof.Machine
end

