-- ==== Sys2Proof/Machine/Commands.lean ====
section
/-! DEFINITION. The commands NOP and CLEAR and the reserved command words (40_register_access.md R137 to R139).
START is in Machine/Sampler.lean, DECODE in Machine/FrameDecoder.lean, INTERPRET in
Machine/Interpreter.lean. -/

namespace Sys2Proof.Machine

/-- NOP (40_register_access.md R137): nothing, in any phase. -/
def execNop (s : State) : Answer := .next s

/-- CLEAR (40_register_access.md R138, R122). -/
def execClear (s : State) : Answer := .next (unlessBusyCommand (clearData s) s)

/-- A reserved command word, in any phase: CMDERR and nothing else (40_register_access.md R139). -/
def reservedCommand (s : State) : State := flagCmdErr s

/-- CMD_RSVD_B31 (R139). -/
def execCmdRsvdB31 (_cmdword : Word) (s : State) : Answer := .next (reservedCommand s)

/-- CMD_RSVD_B30 (R139). -/
def execCmdRsvdB30 (_cmdword : Word) (s : State) : Answer := .next (reservedCommand s)

/-- CMD_RSVD_B29 (R139). -/
def execCmdRsvdB29 (_cmdword : Word) (s : State) : Answer := .next (reservedCommand s)

/-- CMD_RSVD_B28 (R139). -/
def execCmdRsvdB28 (_cmdword : Word) (s : State) : Answer := .next (reservedCommand s)

/-- CMD_RSVD_B27 (R139). -/
def execCmdRsvdB27 (_cmdword : Word) (s : State) : Answer := .next (reservedCommand s)

/-- CMD_RSVD_B26 (R139). -/
def execCmdRsvdB26 (_cmdword : Word) (s : State) : Answer := .next (reservedCommand s)

/-- CMD_RSVD_B25 (R139). -/
def execCmdRsvdB25 (_cmdword : Word) (s : State) : Answer := .next (reservedCommand s)

/-- CMD_RSVD_B24 (R139). -/
def execCmdRsvdB24 (_cmdword : Word) (s : State) : Answer := .next (reservedCommand s)

/-- CMD_RSVD_B23 (R139). -/
def execCmdRsvdB23 (_cmdword : Word) (s : State) : Answer := .next (reservedCommand s)

/-- CMD_RSVD_B22 (R139). -/
def execCmdRsvdB22 (_cmdword : Word) (s : State) : Answer := .next (reservedCommand s)

/-- CMD_RSVD_B21 (R139). -/
def execCmdRsvdB21 (_cmdword : Word) (s : State) : Answer := .next (reservedCommand s)

/-- CMD_RSVD_B20 (R139). -/
def execCmdRsvdB20 (_cmdword : Word) (s : State) : Answer := .next (reservedCommand s)

/-- CMD_RSVD_B19 (R139). -/
def execCmdRsvdB19 (_cmdword : Word) (s : State) : Answer := .next (reservedCommand s)

/-- CMD_RSVD_B18 (R139). -/
def execCmdRsvdB18 (_cmdword : Word) (s : State) : Answer := .next (reservedCommand s)

/-- CMD_RSVD_B17 (R139). -/
def execCmdRsvdB17 (_cmdword : Word) (s : State) : Answer := .next (reservedCommand s)

/-- CMD_RSVD_B16 (R139). -/
def execCmdRsvdB16 (_cmdword : Word) (s : State) : Answer := .next (reservedCommand s)

/-- CMD_RSVD_B15 (R139). -/
def execCmdRsvdB15 (_cmdword : Word) (s : State) : Answer := .next (reservedCommand s)

/-- CMD_RSVD_B14 (R139). -/
def execCmdRsvdB14 (_cmdword : Word) (s : State) : Answer := .next (reservedCommand s)

/-- CMD_RSVD_B13 (R139). -/
def execCmdRsvdB13 (_cmdword : Word) (s : State) : Answer := .next (reservedCommand s)

/-- CMD_RSVD_B12 (R139). -/
def execCmdRsvdB12 (_cmdword : Word) (s : State) : Answer := .next (reservedCommand s)

/-- CMD_RSVD_B11 (R139). -/
def execCmdRsvdB11 (_cmdword : Word) (s : State) : Answer := .next (reservedCommand s)

/-- CMD_RSVD_B10 (R139). -/
def execCmdRsvdB10 (_cmdword : Word) (s : State) : Answer := .next (reservedCommand s)

/-- CMD_RSVD_B9 (R139). -/
def execCmdRsvdB9 (_cmdword : Word) (s : State) : Answer := .next (reservedCommand s)

/-- CMD_RSVD_B8 (R139). -/
def execCmdRsvdB8 (_cmdword : Word) (s : State) : Answer := .next (reservedCommand s)

/-- CMD_RSVD_B7 (R139). -/
def execCmdRsvdB7 (_cmdword : Word) (s : State) : Answer := .next (reservedCommand s)

/-- CMD_RSVD_B6 (R139). -/
def execCmdRsvdB6 (_cmdword : Word) (s : State) : Answer := .next (reservedCommand s)

/-- CMD_RSVD_B5 (R139). -/
def execCmdRsvdB5 (_cmdword : Word) (s : State) : Answer := .next (reservedCommand s)

/-- CMD_RSVD_B4 (R139). -/
def execCmdRsvdB4 (_cmdword : Word) (s : State) : Answer := .next (reservedCommand s)

/-- CMD_RSVD_B3 (R139). -/
def execCmdRsvdB3 (_cmdword : Word) (s : State) : Answer := .next (reservedCommand s)

/-- CMD_RSVD_6_7 (R139). -/
def execCmdRsvd6To7 (_cmdword : Word) (s : State) : Answer := .next (reservedCommand s)

/-- CMD_RSVD_5 (R139). -/
def execCmdRsvd5 (s : State) : Answer := .next (reservedCommand s)

end Sys2Proof.Machine
end

