-- ==== Sys2Proof/Machine/Checksum.lean ====
section
/-! DEFINITION. The 8-bit checksum validator (43_checksum.md R190 to R192). -/

namespace Sys2Proof.Machine

/-- `sum8`, the low 8 bits of the sum of the four data bytes (43_checksum.md R190); also CSUM_CALC (10_state.md
R44). -/
def RawFrame.sum8 (f : RawFrame) : Byte := f.b0 + f.b1 + f.b2 + f.b3

/-- `CsumOK()` in either mode (43_checksum.md R191, R192). -/
def csumOk : CsumMode → RawFrame → Bool
  | .andTest, f => f.sum8 &&& f.b4 == f.b4
  | .modTest, f => f.sum8 == f.b4

end Sys2Proof.Machine
end

