-- ==== Sys2Proof/Machine/Operands.lean ====
section
/-! DEFINITION. Operand assembly (30_encoding.md R82): how a write's operand is taken from WDATA and how a
read's word is put together. Bits not listed are ignored on a write and read 0. -/

namespace Sys2Proof.Machine

/-! ## From WDATA -/

/-- CTRL.MODEL from its bit (10_state.md R22). -/
def SensorModel.ofBit : Bool → SensorModel
  | false => .dht11
  | true => .dht22

/-- CTRL.CSUM_MODE from its bit (10_state.md R22). -/
def CsumMode.ofBit : Bool → CsumMode
  | false => .andTest
  | true => .modTest

/-- `WDATA[15:0]`. -/
def lowHalf (wdata : Word) : Half := wdata.extractLsb' 0 16

/-- Byte `k` of a word, `WDATA[8k+7 : 8k]` (20_memory.md R65). -/
def byteOf (k : Nat) (wdata : Word) : Byte := wdata.extractLsb' (8 * k) 8

/-- START_LOW's floor (10_state.md R23). -/
def startLowFloor : Half := 18000

/-- What a write of START_LOW stores: `max(WDATA[15:0], 18000)`, unsigned (40_register_access.md R124). -/
def startLowOperand (wdata : Word) : Half :=
  if lowHalf wdata < startLowFloor then startLowFloor else lowHalf wdata

/-! ## To RDATA -/

/-- CTRL.MODEL's bit. -/
def SensorModel.bit : SensorModel → Bool
  | .dht11 => false
  | .dht22 => true

/-- CTRL.CSUM_MODE's bit. -/
def CsumMode.bit : CsumMode → Bool
  | .andTest => false
  | .modTest => true

/-- PARAM: `{16'b0, REV, FIFO_DEPTH}` (10_state.md R42). -/
def State.paramWord (s : State) : Word :=
  (0 : Half) ++ Config.revision ++ BitVec.ofNat 8 s.fifoDepth

/-- CTRL: `{29'b0, IE, CSUM_MODE, MODEL}`. -/
def State.ctrlWord (s : State) : Word :=
  (0 : BitVec 29) ++ BitVec.ofBool s.ie ++ BitVec.ofBool s.csumMode.bit ++ BitVec.ofBool s.model.bit

/-- FIFO_LEVEL: `{16'b0, RPTR[7:0], S[7:0]}` (10_state.md R37). Log 11. -/
def State.fifoLevelWord (s : State) : Word :=
  (0 : Half) ++ BitVec.ofNat 8 s.rptr ++ BitVec.ofNat 8 s.fill

/-- RAW_LO: `{RAW[3], RAW[2], RAW[1], RAW[0]}` (10_state.md R39). -/
def State.rawLoWord (s : State) : Word := s.raw.b3 ++ s.raw.b2 ++ s.raw.b1 ++ s.raw.b0

/-- RAW_HI: `{16'b0, CSUM_CALC, RAW[4]}` (10_state.md R39). -/
def State.rawHiWord (s : State) : Word := (0 : Half) ++ s.raw.sum8 ++ s.raw.b4

/-- `zext_32` of a 16-bit field (00_scope.md R12). -/
def zext (v : Half) : Word := v.setWidth 32

end Sys2Proof.Machine
end

