-- ==== Sys2Proof/Machine/Reads.lean ====
section
/-! DEFINITION. The host reads, but for the pop of TS_DATA (40_register_access.md R101 to R118). A read
changes nothing in the block (20_memory.md R69); it only returns a word. -/

namespace Sys2Proof.Machine

/-- RD_ID (R101): the constant 0x44485453. -/
def execRdId (s : State) : Answer := .next (respond Config.idValue s)

/-- RD_PARAM (R102): `{16'b0, 8'h01, FIFO_DEPTH[7:0]}`. -/
def execRdParam (s : State) : Answer := .next (respond s.paramWord s)

/-- RD_CTRL (R103): `{29'b0, IE, CSUM_MODE, MODEL}`. -/
def execRdCtrl (s : State) : Answer := .next (respond s.ctrlWord s)

/-- RD_CMD (R104): CMD stores nothing. -/
def execRdCmd (s : State) : Answer := .next (respond 0 s)

/-- RD_STATUS (R105): the layout of 10_state.md R27; reading clears nothing. -/
def execRdStatus (s : State) : Answer := .next (respond s.statusWord s)

/-- RD_START_LOW (R106): START_LOW. -/
def execRdStartLow (s : State) : Answer := .next (respond (zext s.startLow) s)

/-- RD_RELEASE (R107): RELEASE. -/
def execRdRelease (s : State) : Answer := .next (respond (s.release.setWidth 32) s)

/-- RD_WINDOW (R108): WINDOW. -/
def execRdWindow (s : State) : Answer := .next (respond (zext s.window) s)

/-- RD_THRESH (R109): THRESH. -/
def execRdThresh (s : State) : Answer := .next (respond (zext s.thresh) s)

/-- RD_EDGE_COUNT (R110): N. -/
def execRdEdgeCount (s : State) : Answer := .next (respond (zext s.edgeCount) s)

/-- RD_BITCOUNT (R111): BITCOUNT. -/
def execRdBitcount (s : State) : Answer := .next (respond (zext s.bitCount) s)

/-- RD_FIFO_LEVEL (R112): `{16'b0, RPTR[7:0], S[7:0]}`. -/
def execRdFifoLevel (s : State) : Answer := .next (respond s.fifoLevelWord s)

/-- RD_RAW_LO (R113): `{RAW[3], RAW[2], RAW[1], RAW[0]}`. -/
def execRdRawLo (s : State) : Answer := .next (respond s.rawLoWord s)

/-- RD_RAW_HI (R114): CSUM_CALC computed at the read, and RAW[4]. -/
def execRdRawHi (s : State) : Answer := .next (respond s.rawHiWord s)

/-- RD_HUM (R115): HUM, two's complement. -/
def execRdHum (s : State) : Answer := .next (respond s.hum s)

/-- RD_TEMP (R116): TEMP, two's complement. -/
def execRdTemp (s : State) : Answer := .next (respond s.temp s)

/-- RD_TIMER (R117): TIMER. -/
def execRdTimer (s : State) : Answer := .next (respond s.timer s)

/-- RD_RSVD_18_19 (R118): a reserved index reads 0. -/
def execRdRsvd18To19 (_idx : Index) (s : State) : Answer := .next (respond 0 s)

/-- RD_RSVD_20_23 (R118): a reserved index reads 0. -/
def execRdRsvd20To23 (_idx : Index) (s : State) : Answer := .next (respond 0 s)

/-- RD_RSVD_24_31 (R118): a reserved index reads 0. -/
def execRdRsvd24To31 (_idx : Index) (s : State) : Answer := .next (respond 0 s)

end Sys2Proof.Machine
end

