-- ==== Sys2Proof/Machine/Interpreter.lean ====
section
/-! DEFINITION. The byte interpreter and INTERPRET (44_interpreter.md). All arithmetic is on unbounded
integers; the registers take the result as 32-bit two's complement (00_scope.md R12). -/

namespace Sys2Proof.Machine

/-- HUM in hundredths, never negative (44_interpreter.md R201, R203). -/
def humidity : SensorModel → RawFrame → Nat
  | .dht11, f => f.b0.toNat * 100 + f.b1.toNat
  | .dht22, f => (f.b0.toNat <<< 8 ||| f.b1.toNat) * 10

/-- DHT11's temperature in hundredths, never negative: bit 7 of b2 is masked off (44_interpreter.md R202). -/
def dht11Temperature (f : RawFrame) : Nat := (f.b2.toNat &&& 0x7F) * 100 + f.b3.toNat

/-- DHT22's magnitude in hundredths (44_interpreter.md R204). -/
def dht22Magnitude (f : RawFrame) : Nat := ((f.b2.toNat &&& 0x7F) <<< 8 ||| f.b3.toNat) * 10

/-- TEMP in hundredths (44_interpreter.md R202, R204). -/
def temperature : SensorModel → RawFrame → Int
  | .dht11, f => dht11Temperature f
  | .dht22, f => if f.b2.getLsbD 7 then -dht22Magnitude f else dht22Magnitude f

/-- `sext_32` (00_scope.md R12). -/
def sext (v : Int) : Word := BitVec.ofInt 32 v

/-- CheckInterpret() (44_interpreter.md R200): it reads RAW and CTRL and writes RESULT, HUM and TEMP. -/
def checkInterpret (s : State) : State :=
  { s with
    result := if csumOk s.csumMode s.raw then .success else .checksumMismatch
    hum := if csumOk s.csumMode s.raw then sext (humidity s.model s.raw) else 0
    temp := if csumOk s.csumMode s.raw then sext (temperature s.model s.raw) else 0 }

/-- INTERPRET (44_interpreter.md R207). -/
def execInterpret (s : State) : Answer :=
  .next (unlessBusyCommand (setDone (checkInterpret (clearDone s))) s)

end Sys2Proof.Machine
end

