-- ==== Sys2Proof/Machine/FrameDecoder.lean ====
section
/-! DEFINITION. The frame decoder and DECODE (42_frame_decoder.md). -/

namespace Sys2Proof.Machine

/-- `off = N − 41`, 0 or 1 where a frame is decoded (42_frame_decoder.md R173). -/
def frameOffset (s : State) : Nat := s.edgeCount.toNat - 41

/-- `d_i`, a signed difference that does not wrap (42_frame_decoder.md R174). -/
def interval (s : State) (i : Nat) : Int :=
  ((s.edgeAt (frameOffset s + i + 1)).toNat : Int) - ((s.edgeAt (frameOffset s + i)).toNat : Int)

/-- `b_i`: at or above THRESH is a 1 (42_frame_decoder.md R175). -/
def frameBit (s : State) (i : Nat) : Bool := decide ((s.thresh.toNat : Int) ≤ interval s i)

/-- `RAW[j] = {b_8j, …, b_8j+7}`, `b_8j` in bit 7 (42_frame_decoder.md R176). -/
def packByte (s : State) (j : Nat) : Byte :=
  BitVec.ofBool (frameBit s (8 * j)) ++ BitVec.ofBool (frameBit s (8 * j + 1))
    ++ BitVec.ofBool (frameBit s (8 * j + 2)) ++ BitVec.ofBool (frameBit s (8 * j + 3))
    ++ BitVec.ofBool (frameBit s (8 * j + 4)) ++ BitVec.ofBool (frameBit s (8 * j + 5))
    ++ BitVec.ofBool (frameBit s (8 * j + 6)) ++ BitVec.ofBool (frameBit s (8 * j + 7))

/-- The five bytes the trace packs to. -/
def packFrame (s : State) : RawFrame :=
  ⟨packByte s 0, packByte s 1, packByte s 2, packByte s 3, packByte s 4⟩

/-- A decode that fails: `r` with BITCOUNT `n`, everything else 0 (42_frame_decoder.md R171, R172). -/
def failDecode (r : DecodeResult) (n : Half) (s : State) : State :=
  { s with result := r, bitCount := n, raw := .zero, hum := 0, temp := 0 }

/-- Decode() (42_frame_decoder.md R170): the first step that decides a result ends it. -/
def decodeTrace (s : State) : State :=
  if s.edgeCount.toNat = 0 then failDecode .noResponse 0 s
  else if s.edgeCount.toNat = 41 ∨ s.edgeCount.toNat = 42 then
    checkInterpret { s with raw := packFrame s, bitCount := 40 }
  else failDecode .incorrectByteCount (s.edgeCount - 1) s

/-- DECODE (42_frame_decoder.md R178). -/
def execDecode (s : State) : Answer :=
  .next (unlessBusyCommand (setDone (decodeTrace (clearDone s))) s)

end Sys2Proof.Machine
end

