-- ==== Sys2Proof/Machine/Sampler.lean ====
section
/-! DEFINITION. The signal sampler (41_sampler.md): the sequencer's tick in every phase, START, and the host's
pop and push of the timestamp FIFO. -/

namespace Sys2Proof.Machine

/-! ## The tick -/

/-- enter_capture() (41_sampler.md R148): OUT keeps its value, and an empty window takes no sample. -/
def enterCapture (s : State) : State :=
  { s with
    oe := false
    prev := true
    cnt := 0
    phase := if s.window.toNat = 0 then .restore else .capture }

/-- enter_release() (41_sampler.md R146). -/
def enterRelease (s : State) : State :=
  if s.release.toNat = 0 then enterCapture s
  else { s with phase := .release, cnt := 0, oe := true, out := true }

/-- `CNT + 1`, on unbounded integers (00_scope.md R12). -/
def nextCount (s : State) : Nat := s.cnt.toNat + 1

/-- `CNT <- c` for the next count. -/
def countUp (s : State) : State := { s with cnt := BitVec.ofNat 16 (nextCount s) }

/-- The tick in START (41_sampler.md R145). -/
def tickStart (s : State) : State :=
  if s.startLow.toNat ≤ nextCount s then enterRelease s else countUp s

/-- The tick in RELEASE (41_sampler.md R147). -/
def tickRelease (s : State) : State :=
  if s.release.toNat ≤ nextCount s then enterCapture s else countUp s

/-- One capture sample (41_sampler.md R149): a falling edge is a 0 after a 1, stamped with CNT. -/
def sampleLine (level : Bool) (s : State) : State :=
  { (if s.prev && !level then recordEdge s.cnt s else s) with prev := level }

/-- The window is over: RESTORE follows (41_sampler.md R149). -/
def endCapture (s : State) : State := { s with phase := .restore, cnt := 0 }

/-- The end of a capture tick (41_sampler.md R149). -/
def advanceCapture (s : State) : State :=
  if s.window.toNat ≤ nextCount s then endCapture s else countUp s

/-- The tick in CAPTURE (41_sampler.md R149). -/
def tickCapture (level : Bool) (s : State) : State := advanceCapture (sampleLine level s)

/-- The pin restored: output, driven high (41_sampler.md R151). -/
def restorePin (s : State) : State := { s with oe := true, out := true }

/-- The tick in RESTORE (41_sampler.md R151). -/
def tickRestore (s : State) : State :=
  { decodeTrace (restorePin s) with phase := .idle, cnt := 0, done := true }

/-- The phase step of a tick (41_sampler.md R144, R145, R147, R149, R151). -/
def phaseStep (level : Bool) (s : State) : State :=
  match s.phase with
  | .idle => s
  | .start => tickStart s
  | .release => tickRelease s
  | .capture => tickCapture level s
  | .restore => tickRestore s

/-- The part every tick has (41_sampler.md R143). -/
def clockTick (level : Bool) (s : State) : State := { s with timer := s.timer + 1, line := level }

/-- Tick(line) (41_sampler.md R143). -/
def tick (level : Bool) (s : State) : State := phaseStep level (clockTick level s)

/-! ## START, pop and push -/

/-- What an accepted START does (41_sampler.md R142). -/
def acceptStart (s : State) : State :=
  { clearData s with phase := .start, cnt := 0, oe := true, out := false }

/-- START (41_sampler.md R142). -/
def execStart (s : State) : Answer := .next (unlessBusyCommand (acceptStart s) s)

/-- The pop of an entry: RPTR moves on and the entry is returned (41_sampler.md R154). -/
def popEdge (s : State) : State := respond (zext (s.edgeAt s.rptr)) { s with rptr := s.rptr + 1 }

/-- RD_TS_DATA (41_sampler.md R154): 0 and RDERR when there is no unread entry. -/
def execRdTsData (s : State) : Answer :=
  .next (if s.rptr < s.fill then popEdge s else respond 0 (flagRdErr s))

/-- WR_TS_DATA (41_sampler.md R155). -/
def execWrTsData (wdata : Word) (s : State) : Answer :=
  .next (unlessBusyWrite (recordEdge (lowHalf wdata) s) s)

end Sys2Proof.Machine
end

