-- ==== Sys2Proof/Machine/Writes.lean ====
section
/-! DEFINITION. The host writes, but for the commands and the push of TS_DATA (40_register_access.md R119 to
R136). -/

namespace Sys2Proof.Machine

/-- A write to a read-only register or a reserved index: no effect and no flag (20_memory.md R63). -/
def ignoreWrite (s : State) : State := s

/-- WR_ID (R119): read-only, ignored. -/
def execWrId (_wdata : Word) (s : State) : Answer := .next (ignoreWrite s)

/-- WR_PARAM (R120): read-only, ignored. -/
def execWrParam (_wdata : Word) (s : State) : Answer := .next (ignoreWrite s)

/-- WR_CTRL (R121): MODEL, CSUM_MODE and IE from bits 0, 1 and 2. -/
def execWrCtrl (wdata : Word) (s : State) : Answer :=
  .next (unlessBusyWrite
    { s with
      model := .ofBit (wdata.getLsbD 0)
      csumMode := .ofBit (wdata.getLsbD 1)
      ie := wdata.getLsbD 2 } s)

/-- WR_STATUS (R123): write one to clear, in every phase. -/
def execWrStatus (wdata : Word) (s : State) : Answer :=
  .next (clearFlags wdata s)

/-- WR_START_LOW (R124): WARL with floor 18000. -/
def execWrStartLow (wdata : Word) (s : State) : Answer :=
  .next (unlessBusyWrite { s with startLow := startLowOperand wdata } s)

/-- WR_RELEASE (R125): `WDATA[7:0]`. -/
def execWrRelease (wdata : Word) (s : State) : Answer :=
  .next (unlessBusyWrite { s with release := byteOf 0 wdata } s)

/-- WR_WINDOW (R126): `WDATA[15:0]`. -/
def execWrWindow (wdata : Word) (s : State) : Answer :=
  .next (unlessBusyWrite { s with window := lowHalf wdata } s)

/-- WR_THRESH (R127): `WDATA[15:0]`. -/
def execWrThresh (wdata : Word) (s : State) : Answer :=
  .next (unlessBusyWrite { s with thresh := lowHalf wdata } s)

/-- WR_EDGE_COUNT (R128): read-only, ignored. -/
def execWrEdgeCount (_wdata : Word) (s : State) : Answer := .next (ignoreWrite s)

/-- WR_BITCOUNT (R129): read-only, ignored. -/
def execWrBitcount (_wdata : Word) (s : State) : Answer := .next (ignoreWrite s)

/-- WR_FIFO_LEVEL (R130): read-only, ignored. -/
def execWrFifoLevel (_wdata : Word) (s : State) : Answer := .next (ignoreWrite s)

/-- WR_RAW_LO (R131): RAW[0..3]; nothing is recomputed. -/
def execWrRawLo (wdata : Word) (s : State) : Answer :=
  .next (unlessBusyWrite
    { s with raw := ⟨byteOf 0 wdata, byteOf 1 wdata, byteOf 2 wdata, byteOf 3 wdata, s.raw.b4⟩ } s)

/-- WR_RAW_HI (R132): RAW[4]. -/
def execWrRawHi (wdata : Word) (s : State) : Answer :=
  .next (unlessBusyWrite { s with raw := { s.raw with b4 := byteOf 0 wdata } } s)

/-- WR_HUM (R133): read-only, ignored. -/
def execWrHum (_wdata : Word) (s : State) : Answer := .next (ignoreWrite s)

/-- WR_TEMP (R134): read-only, ignored. -/
def execWrTemp (_wdata : Word) (s : State) : Answer := .next (ignoreWrite s)

/-- WR_TIMER (R135): read-only, ignored. -/
def execWrTimer (_wdata : Word) (s : State) : Answer := .next (ignoreWrite s)

/-- WR_RSVD_18_19 (R136): a reserved index, ignored. -/
def execWrRsvd18To19 (_idx : Index) (_wdata : Word) (s : State) : Answer :=
  .next (ignoreWrite s)

/-- WR_RSVD_20_23 (R136): a reserved index, ignored. -/
def execWrRsvd20To23 (_idx : Index) (_wdata : Word) (s : State) : Answer :=
  .next (ignoreWrite s)

/-- WR_RSVD_24_31 (R136): a reserved index, ignored. -/
def execWrRsvd24To31 (_idx : Index) (_wdata : Word) (s : State) : Answer :=
  .next (ignoreWrite s)

end Sys2Proof.Machine
end

