-- ==== Sys2Proof/Machine/Dispatch.lean ====
section
/-! DEFINITION. One arm per operation. -/

namespace Sys2Proof.Machine

def exec (i : Instr) (s : State) : Host.Outcome State Fault Refusal :=
  match i with
  | .rdId => Sys2Proof.Machine.execRdId s
  | .rdParam => Sys2Proof.Machine.execRdParam s
  | .rdCtrl => Sys2Proof.Machine.execRdCtrl s
  | .rdCmd => Sys2Proof.Machine.execRdCmd s
  | .rdStatus => Sys2Proof.Machine.execRdStatus s
  | .rdStartLow => Sys2Proof.Machine.execRdStartLow s
  | .rdRelease => Sys2Proof.Machine.execRdRelease s
  | .rdWindow => Sys2Proof.Machine.execRdWindow s
  | .rdThresh => Sys2Proof.Machine.execRdThresh s
  | .rdEdgeCount => Sys2Proof.Machine.execRdEdgeCount s
  | .rdBitcount => Sys2Proof.Machine.execRdBitcount s
  | .rdTsData => Sys2Proof.Machine.execRdTsData s
  | .rdFifoLevel => Sys2Proof.Machine.execRdFifoLevel s
  | .rdRawLo => Sys2Proof.Machine.execRdRawLo s
  | .rdRawHi => Sys2Proof.Machine.execRdRawHi s
  | .rdHum => Sys2Proof.Machine.execRdHum s
  | .rdTemp => Sys2Proof.Machine.execRdTemp s
  | .rdTimer => Sys2Proof.Machine.execRdTimer s
  | .rdRsvd18To19 idx => Sys2Proof.Machine.execRdRsvd18To19 idx s
  | .rdRsvd20To23 idx => Sys2Proof.Machine.execRdRsvd20To23 idx s
  | .rdRsvd24To31 idx => Sys2Proof.Machine.execRdRsvd24To31 idx s
  | .wrId wdata => Sys2Proof.Machine.execWrId wdata s
  | .wrParam wdata => Sys2Proof.Machine.execWrParam wdata s
  | .wrCtrl wdata => Sys2Proof.Machine.execWrCtrl wdata s
  | .wrStatus wdata => Sys2Proof.Machine.execWrStatus wdata s
  | .wrStartLow wdata => Sys2Proof.Machine.execWrStartLow wdata s
  | .wrRelease wdata => Sys2Proof.Machine.execWrRelease wdata s
  | .wrWindow wdata => Sys2Proof.Machine.execWrWindow wdata s
  | .wrThresh wdata => Sys2Proof.Machine.execWrThresh wdata s
  | .wrEdgeCount wdata => Sys2Proof.Machine.execWrEdgeCount wdata s
  | .wrBitcount wdata => Sys2Proof.Machine.execWrBitcount wdata s
  | .wrTsData wdata => Sys2Proof.Machine.execWrTsData wdata s
  | .wrFifoLevel wdata => Sys2Proof.Machine.execWrFifoLevel wdata s
  | .wrRawLo wdata => Sys2Proof.Machine.execWrRawLo wdata s
  | .wrRawHi wdata => Sys2Proof.Machine.execWrRawHi wdata s
  | .wrHum wdata => Sys2Proof.Machine.execWrHum wdata s
  | .wrTemp wdata => Sys2Proof.Machine.execWrTemp wdata s
  | .wrTimer wdata => Sys2Proof.Machine.execWrTimer wdata s
  | .wrRsvd18To19 idx wdata => Sys2Proof.Machine.execWrRsvd18To19 idx wdata s
  | .wrRsvd20To23 idx wdata => Sys2Proof.Machine.execWrRsvd20To23 idx wdata s
  | .wrRsvd24To31 idx wdata => Sys2Proof.Machine.execWrRsvd24To31 idx wdata s
  | .nop => Sys2Proof.Machine.execNop s
  | .start => Sys2Proof.Machine.execStart s
  | .decode => Sys2Proof.Machine.execDecode s
  | .interpret => Sys2Proof.Machine.execInterpret s
  | .clear => Sys2Proof.Machine.execClear s
  | .cmdRsvdB31 cmdword => Sys2Proof.Machine.execCmdRsvdB31 cmdword s
  | .cmdRsvdB30 cmdword => Sys2Proof.Machine.execCmdRsvdB30 cmdword s
  | .cmdRsvdB29 cmdword => Sys2Proof.Machine.execCmdRsvdB29 cmdword s
  | .cmdRsvdB28 cmdword => Sys2Proof.Machine.execCmdRsvdB28 cmdword s
  | .cmdRsvdB27 cmdword => Sys2Proof.Machine.execCmdRsvdB27 cmdword s
  | .cmdRsvdB26 cmdword => Sys2Proof.Machine.execCmdRsvdB26 cmdword s
  | .cmdRsvdB25 cmdword => Sys2Proof.Machine.execCmdRsvdB25 cmdword s
  | .cmdRsvdB24 cmdword => Sys2Proof.Machine.execCmdRsvdB24 cmdword s
  | .cmdRsvdB23 cmdword => Sys2Proof.Machine.execCmdRsvdB23 cmdword s
  | .cmdRsvdB22 cmdword => Sys2Proof.Machine.execCmdRsvdB22 cmdword s
  | .cmdRsvdB21 cmdword => Sys2Proof.Machine.execCmdRsvdB21 cmdword s
  | .cmdRsvdB20 cmdword => Sys2Proof.Machine.execCmdRsvdB20 cmdword s
  | .cmdRsvdB19 cmdword => Sys2Proof.Machine.execCmdRsvdB19 cmdword s
  | .cmdRsvdB18 cmdword => Sys2Proof.Machine.execCmdRsvdB18 cmdword s
  | .cmdRsvdB17 cmdword => Sys2Proof.Machine.execCmdRsvdB17 cmdword s
  | .cmdRsvdB16 cmdword => Sys2Proof.Machine.execCmdRsvdB16 cmdword s
  | .cmdRsvdB15 cmdword => Sys2Proof.Machine.execCmdRsvdB15 cmdword s
  | .cmdRsvdB14 cmdword => Sys2Proof.Machine.execCmdRsvdB14 cmdword s
  | .cmdRsvdB13 cmdword => Sys2Proof.Machine.execCmdRsvdB13 cmdword s
  | .cmdRsvdB12 cmdword => Sys2Proof.Machine.execCmdRsvdB12 cmdword s
  | .cmdRsvdB11 cmdword => Sys2Proof.Machine.execCmdRsvdB11 cmdword s
  | .cmdRsvdB10 cmdword => Sys2Proof.Machine.execCmdRsvdB10 cmdword s
  | .cmdRsvdB9 cmdword => Sys2Proof.Machine.execCmdRsvdB9 cmdword s
  | .cmdRsvdB8 cmdword => Sys2Proof.Machine.execCmdRsvdB8 cmdword s
  | .cmdRsvdB7 cmdword => Sys2Proof.Machine.execCmdRsvdB7 cmdword s
  | .cmdRsvdB6 cmdword => Sys2Proof.Machine.execCmdRsvdB6 cmdword s
  | .cmdRsvdB5 cmdword => Sys2Proof.Machine.execCmdRsvdB5 cmdword s
  | .cmdRsvdB4 cmdword => Sys2Proof.Machine.execCmdRsvdB4 cmdword s
  | .cmdRsvdB3 cmdword => Sys2Proof.Machine.execCmdRsvdB3 cmdword s
  | .cmdRsvd6To7 cmdword => Sys2Proof.Machine.execCmdRsvd6To7 cmdword s
  | .cmdRsvd5 => Sys2Proof.Machine.execCmdRsvd5 s

end Sys2Proof.Machine
end

