-- ==== Sys2Proof/Machine/Port.lean ====
section
/-! DEFINITION. How an event reaches the block: the register port (20_memory.md R60), the decoding of the
window on the platform bus (R61, R67), the tick and the reset input; and which event comes next (R70). -/

namespace Sys2Proof.Machine

/-! ## The window -/

/-- Some byte of the access lies in the window `BASE .. BASE + 127` (20_memory.md R61). -/
def touchesWindow (a : BusAccess) : Bool :=
  decide (Config.base < a.addr + a.size.bytes) && decide (a.addr < Config.base + Config.windowBytes)

/-- An aligned 32-bit access, the only one the block defines (20_memory.md R67). -/
def alignedWord (a : BusAccess) : Bool := decide (a.size = .word) && decide (a.addr % 4 = 0)

/-- `(address − BASE) >> 2` (20_memory.md R60). -/
def wordIndex (a : BusAccess) : Index := BitVec.ofNat 5 ((a.addr - Config.base) / 4)

/-- The access word the port sees of a bus access. -/
def portWord (a : BusAccess) : AccessWord := accessWord a.write (wordIndex a) a.wdata

/-! ## Events -/

/-- One access at the register port. -/
def runPort (w : AccessWord) (s : State) : Answer := exec (decodeWord w) s

/-- One access on the platform bus: it does not reach the block outside the window (20_memory.md R61), and is
refused where it is no aligned 32-bit access (R67). Log 5. -/
def runBus (a : BusAccess) (s : State) : Answer :=
  if touchesWindow a then
    if alignedWord a then runPort (portWord a) s else .refused .undefinedAccess
  else .next s

/-- One atomic step of one agent (00_scope.md R10). -/
def takeEvent (e : Event) (s : State) : Answer :=
  match e with
  | .port w => runPort w s
  | .bus a => runBus a s
  | .tick level => .next (tick level s)
  | .reset => .next (resetBlock s)

/-- The event that comes next: the first one listed, else one drawn from the free schedule. Log 3. -/
def nextEvent (s : State) : Event :=
  match s.events with
  | [] => Config.freeEvent s.drawn
  | e :: _ => e

/-- The state once the next event is taken from the list, or drawn. -/
def dropEvent (s : State) : State :=
  match s.events with
  | [] => { s with drawn := s.drawn + 1 }
  | _ :: es => { s with events := es }

/-- The state whose next event is one access at the port. -/
def pushPort (w : AccessWord) (s : State) : State := { s with events := .port w :: s.events }

end Sys2Proof.Machine
end

