-- ==== Sys2Proof/Machine/Step.lean ====
section
/-! DEFINITION. One step of the machine: one event of one agent (00_scope.md R10, 20_memory.md R70). -/

namespace Sys2Proof.Machine

/-- One step: the next event, run on the state without it. -/
def step (s : State) : Host.Outcome State Fault Refusal := takeEvent (nextEvent s) (dropEvent s)

/-- `s` with one host access in front of the coming events: the operation whose bits are `w`, bit 0 the least
significant, the bits from `nbits` up zero. The very next step runs it. Log 3. -/
def State.withFetchWord (s : State) (nbits w : Nat) : State :=
  pushPort (BitVec.ofNat 38 (w % 2 ^ nbits)) s

end Sys2Proof.Machine
end

