-- ==== Sys2Proof/Safety.lean ====
section
/-! DEFINITION. The terms claims use: the invariants of 10_state.md R45 and 41_sampler.md R156, runs of ticks,
the falling edges of a line, and what the next event asks of the block. A run is safe when no step of it is
refused; no step faults (60_exceptions.md R220). -/

namespace Sys2Proof.Machine

/-! ## Events -/

/-- The host operation an event performs on the block, if it performs one. -/
def hostOp : Event → Option Instr
  | .port w => some (decodeWord w)
  | .bus a => if touchesWindow a && alignedWord a then some (decodeWord (portWord a)) else none
  | .tick _ => none
  | .reset => none

/-- The event is an access that the spec does not define (20_memory.md R67). -/
def undefinedBus : Event → Bool
  | .port _ => false
  | .bus a => touchesWindow a && !alignedWord a
  | .tick _ => false
  | .reset => false

/-- A step that is not refused. -/
def safeStep (s : State) : Bool := !undefinedBus (nextEvent s)

/-! ## Operations -/

/-- The operation is a write to CMD. -/
def isCommand (i : Instr) : Bool := accessWrite (encodeWord i) && decide (accessIndex (encodeWord i) = 3)

/-- The writes that BUSY rejects (40_register_access.md R100). -/
def isGuardedWrite : Instr → Bool
  | .wrCtrl _ | .wrStartLow _ | .wrRelease _ | .wrWindow _ | .wrThresh _ | .wrTsData _ | .wrRawLo _
  | .wrRawHi _ => true
  | _ => false

/-- Operation `i` completes as a read: it returns a word with property `P` and changes nothing else. -/
def Returns (i : Instr) (s : State) (P : Word → Prop) : Prop :=
  ∃ v, exec i s = .next { s with rdata := some v } ∧ P v

/-- Operation `i` completes by setting CMDERR and changes nothing else (40_register_access.md R122, R139). -/
def OnlyCmdErr (i : Instr) (s : State) : Prop := exec i s = .next { s with cmdErr := true }

/-- Operation `i` answers by setting WRERR and changes nothing else (40_register_access.md R100). -/
def OnlyWrErr (i : Instr) (s : State) : Prop := exec i s = .next { s with wrErr := true }

/-- Operation `i` completes and changes nothing at all. -/
def NoEffect (i : Instr) (s : State) : Prop := exec i s = .next s

/-! ## Invariants -/

/-- The invariants of 10_state.md R45 (items 1 to 5; item 7 is in the types), START_LOW's floor (R23), and the
canonical form of EDGE, in which every stored entry is listed. -/
structure State.Inv (s : State) : Prop where
  fill_counts : s.edgeCount.toNat < Config.maxEdgeCount → s.fill = min s.edgeCount.toNat s.fifoDepth
  fill_saturated : s.edgeCount.toNat = Config.maxEdgeCount → s.fill = s.fifoDepth
  rptr_le_fill : s.rptr ≤ s.fill
  fill_le_depth : s.fill ≤ s.fifoDepth
  idle_cnt : s.phase = .idle → s.cnt = 0
  start_pin : s.phase = .start → s.oe = true ∧ s.out = false
  release_pin : s.phase = .release → s.oe = true ∧ s.out = true
  capture_pin : s.phase = .capture → s.oe = false
  failed_zero : s.result ≠ .success → s.hum = 0 ∧ s.temp = 0
  startLow_floor : 18000 ≤ s.startLow.toNat
  edge_wf : edgeWf s.fifoDepth s.edge = true
  edge_stored : ∀ i, i < s.fill → (edgeLookup i s.edge).isSome = true

/-- The timestamps of a transaction (41_sampler.md R156): none before CAPTURE; in CAPTURE and RESTORE they
rise by at least 2 and lie below WINDOW; in CAPTURE they lie behind CNT. -/
structure State.TraceOrdered (s : State) : Prop where
  none_before : s.phase = .start ∨ s.phase = .release → s.fill = 0
  spaced : s.phase = .capture ∨ s.phase = .restore →
    ∀ i, i + 1 < s.fill → (s.edgeAt i).toNat + 2 ≤ (s.edgeAt (i + 1)).toNat
  in_window : s.phase = .capture ∨ s.phase = .restore → ∀ i, i < s.fill → (s.edgeAt i).toNat < s.window.toNat
  count_in_window : s.phase = .capture → s.cnt.toNat < s.window.toNat
  behind_count : s.phase = .capture → ∀ i, i < s.fill → (s.edgeAt i).toNat < s.cnt.toNat
  behind_high : s.phase = .capture → s.prev = true → ∀ i, i < s.fill → (s.edgeAt i).toNat + 1 < s.cnt.toNat

/-- A failed decode left RAW at zero (10_state.md R45 item 6). -/
def State.FailedFrameZero (s : State) : Prop :=
  s.result = .noResponse ∨ s.result = .incorrectByteCount → s.raw = .zero

/-! ## Runs of ticks -/

/-- The ticks with these line levels, the first level first. -/
def runTicks (levels : List Bool) (s : State) : State := levels.foldl (fun u level => tick level u) s

/-- `L + R + W`: the ticks of a transaction before its RESTORE tick (41_sampler.md R152). -/
def State.ticksToRestore (s : State) : Nat := s.startLow.toNat + s.release.toNat + s.window.toNat

/-- The sample indices at which a line falls, the first sample having index `k` and following the level
`before` (41_sampler.md R149). -/
def fallingFrom (before : Bool) (k : Nat) : List Bool → List Nat
  | [] => []
  | level :: levels =>
    if before && !level then k :: fallingFrom level (k + 1) levels else fallingFrom level (k + 1) levels

/-- The falling edges of a capture window: the level before the first sample counts as 1 (41_sampler.md
R148). -/
def fallingEdges (levels : List Bool) : List Nat := fallingFrom true 0 levels

/-- The levels of the capture window among the levels of all the ticks of a transaction of `s`. -/
def State.windowLevels (s : State) (levels : List Bool) : List Bool :=
  (levels.drop (s.startLow.toNat + s.release.toNat)).take s.window.toNat

/-- The event is a tick. -/
def isTick : Event → Bool
  | .tick _ => true
  | _ => false

/-- Where a transaction of `s` stands after `n` ticks, `n ≤ L + R + W`: PHASE and the pin (41_sampler.md R152,
R153); OUT has no rule while the pin is released (R148). -/
def State.OnTimeline (s : State) (n : Nat) (v : State) : Prop :=
  (n < s.startLow.toNat → v.phase = .start ∧ v.oe = true ∧ v.out = false) ∧
  (s.startLow.toNat ≤ n → n < s.startLow.toNat + s.release.toNat →
    v.phase = .release ∧ v.oe = true ∧ v.out = true) ∧
  (s.startLow.toNat + s.release.toNat ≤ n → n < s.ticksToRestore → v.phase = .capture ∧ v.oe = false) ∧
  (n = s.ticksToRestore → v.phase = .restore ∧ v.oe = false)

/-! ## Frames -/

/-- `RAW[j]`, 0 where there is no such byte. -/
def RawFrame.byte (f : RawFrame) : Nat → Byte
  | 0 => f.b0
  | 1 => f.b1
  | 2 => f.b2
  | 3 => f.b3
  | 4 => f.b4
  | _ => 0

/-- The sum of the four data bytes as unsigned integers (43_checksum.md R190). -/
def RawFrame.fullSum (f : RawFrame) : Nat := f.b0.toNat + f.b1.toNat + f.b2.toNat + f.b3.toNat

/-- The part of the state a transaction lives on, and that the host cannot change while BUSY
(40_register_access.md R100): everything but the sticky flags, RPTR and the answer of a read. -/
def sameTransaction (s t : State) : Prop :=
  t.model = s.model ∧ t.csumMode = s.csumMode ∧ t.ie = s.ie ∧ t.startLow = s.startLow ∧ t.release = s.release ∧
  t.window = s.window ∧ t.thresh = s.thresh ∧ t.result = s.result ∧ t.phase = s.phase ∧ t.cnt = s.cnt ∧
  t.prev = s.prev ∧ t.line = s.line ∧ t.oe = s.oe ∧ t.out = s.out ∧ t.edge = s.edge ∧ t.fill = s.fill ∧
  t.edgeCount = s.edgeCount ∧ t.bitCount = s.bitCount ∧ t.raw = s.raw ∧ t.hum = s.hum ∧ t.temp = s.temp ∧
  t.timer = s.timer ∧ t.extraDepth = s.extraDepth ∧ t.edgeEpoch = s.edgeEpoch

end Sys2Proof.Machine
end

