-- ==== Sys2Proof/Certificates/Slice0/Obligations.lean ====
section
/-! DEFINITION. The statements for the provers, by the spec's files: encoding, ports and steps, reset, reads,
writes, commands, the FIFO, the tick, the decoder and interpreter, the invariants, the rules about the whole
block. Where a next state is written out as an update of `s`, everything not named is unchanged: the frame. -/

open Sys2Proof Sys2Proof.Machine

/-! ## Encoding (30_encoding.md) -/

/-- Decoding the encoding of a well-formed operation gives it back, with every operand, as an access word and
as bytes (R80 to R85; the byte layout is the model's own, log 10). -/
def Obligations.DecodeOfEncodeIsTheOperation : Prop :=
  ∀ i : Instr, wellFormed i = true → decodeWord (encodeWord i) = i ∧ decodeBytes (encodeBytes i) = .ok i

/-- R81: every access word is taken by exactly one row of the opcode table, the row of the operation the
decoder reads, which is well formed. -/
def Obligations.EveryAccessWordIsOneTableRow : Prop :=
  ∀ a : AccessWord, opcodeTable.filter (fun r => r.takes a) = [rowOf (decodeWord a)] ∧
    wellFormed (decodeWord a) = true

/-- R80, R81: no bit of a write's access word is lost by decoding; of a read's, only WDATA, which is not part of
its match. -/
def Obligations.EncodeOfDecodeIsTheAccessWord : Prop :=
  ∀ a : AccessWord,
    (a.getLsbD 37 = true → encodeWord (decodeWord a) = a) ∧
    (a.getLsbD 37 = false → encodeWord (decodeWord a) = accessWord false (accessIndex a) 0)

/-- Words written out from R80, R83, R84 and the programs of 95_test_vectors.md decode to what they stand
for. -/
def Obligations.SpecWordsDecode : Prop :=
  decodeWord 0x0000000000 = .rdId ∧ decodeWord 0x0400000000 = .rdStatus ∧ decodeWord 0x0B00000000 = .rdTsData ∧
  decodeWord 0x1F00000000 = .rdRsvd24To31 31 ∧ decodeWord 0x2200000004 = .wrCtrl 4 ∧
  decodeWord 0x240000007A = .wrStatus 0x7A ∧ decodeWord 0x2B00000028 = .wrTsData 40 ∧
  decodeWord 0x2D00850000 = .wrRawLo 0x00850000 ∧ decodeWord 0x3400000000 = .wrRsvd20To23 20 0 ∧
  decodeWord 0x2300000000 = .nop ∧ decodeWord 0x2300000001 = .start ∧ decodeWord 0x2300000002 = .decode ∧
  decodeWord 0x2300000003 = .interpret ∧ decodeWord 0x2300000004 = .clear ∧ decodeWord 0x2300000005 = .cmdRsvd5 ∧
  decodeWord 0x2300000007 = .cmdRsvd6To7 7 ∧ decodeWord 0x2300000101 = .cmdRsvdB8 0x101 ∧
  decodeWord 0x23FFFFFFFF = .cmdRsvdB31 0xFFFFFFFF

/-! ## Ports and steps (20_memory.md) -/

/-- R87, R70: when the next event is an access at the register port, step is exec of the decoded operation on the
state without that event; in particular it runs the operation whose encoding the access carries. A listed tick or
reset is the next step; with nothing listed, the next event is the free schedule's (the model's own, log 3). -/
def Obligations.StepRunsTheDecodedOperation : Prop :=
  ∀ (s : State) (es : List Event),
    (∀ w, s.events = .port w :: es →
      step s = exec (decodeWord w) { s with events := es } ∧
      ∀ i : Instr, wellFormed i = true → w = encodeWord i → step s = exec i { s with events := es }) ∧
    (∀ level, s.events = .tick level :: es → step s = .next (tick level { s with events := es })) ∧
    (s.events = .reset :: es → step s = .next (resetBlock { s with events := es })) ∧
    (s.events = [] → step s = takeEvent (Config.freeEvent s.drawn) { s with drawn := s.drawn + 1 })

/-- R61, R60: an aligned word access at `BASE + 4·k` performs the operation of word index `k`, and an access with
no byte in the window does not reach the block. -/
def Obligations.BusAccessReachesItsRegister : Prop :=
  (∀ (s : State) (k : Index) (write : Bool) (wdata : Word) (es : List Event),
    s.events = .bus ⟨Config.base + 4 * k.toNat, .word, write, wdata⟩ :: es →
    step s = exec (decodeWord (accessWord write k wdata)) { s with events := es }) ∧
  ∀ (s : State) (a : BusAccess) (es : List Event), s.events = .bus a :: es →
    (a.addr + a.size.bytes ≤ Config.base ∨ Config.base + 128 ≤ a.addr) → step s = .next { s with events := es }

/-- R67, R60, R220: a step is refused exactly when the next event is a bus access with a byte in the window that
is no aligned 32-bit access; every other step answers a next state. -/
def Obligations.OnlyUndefinedAccessesAreRefused : Prop :=
  ∀ s : State,
    ((∃ a, nextEvent s = .bus a ∧ Config.base < a.addr + a.size.bytes ∧ a.addr < Config.base + 128 ∧
        ¬ (a.size = .word ∧ a.addr % 4 = 0)) → step s = .refused .undefinedAccess) ∧
    ((¬ ∃ a, nextEvent s = .bus a ∧ Config.base < a.addr + a.size.bytes ∧ a.addr < Config.base + 128 ∧
        ¬ (a.size = .word ∧ a.addr % 4 = 0)) → ∃ t, step s = .next t)

/-- R63, R85: over the bus, a reserved index 18 .. 31 reads 0 and a write to it changes nothing. -/
def Obligations.ReservedIndicesOverTheBus : Prop :=
  ∀ (s : State) (k : Nat) (wdata : Word) (es : List Event), 18 ≤ k → k ≤ 31 →
    (s.events = .bus ⟨Config.base + 4 * k, .word, false, wdata⟩ :: es →
      step s = .next { s with events := es, rdata := some 0 }) ∧
    (s.events = .bus ⟨Config.base + 4 * k, .word, true, wdata⟩ :: es → step s = .next { s with events := es })

/-! ## Reset (70_reset_and_hazards.md, 10_state.md) -/

/-- R250, R46: the reset input puts every component at its reset value whatever the phase, leaves the ID and PARAM
constants, and leaves IRQ at 0. -/
def Obligations.ResetGivesTheResetValues : Prop :=
  ∀ (s : State) (es : List Event), s.events = .reset :: es → ∃ t, step s = .next t ∧
    t.model.bit = false ∧ t.csumMode.bit = false ∧ t.ie = false ∧ t.startLow.toNat = 18000 ∧
    t.release.toNat = 1 ∧ t.window.toNat = 6000 ∧ t.thresh.toNat = 100 ∧ t.done = false ∧ t.cmdErr = false ∧
    t.wrErr = false ∧ t.rdErr = false ∧ t.ovf = false ∧ t.result = .none ∧ t.phase = .idle ∧ t.cnt.toNat = 0 ∧
    t.prev = true ∧ t.line = true ∧ t.oe = false ∧ t.out = true ∧ t.fill = 0 ∧ t.rptr = 0 ∧
    t.edgeCount.toNat = 0 ∧ t.bitCount.toNat = 0 ∧ (∀ k, t.raw.byte k = 0) ∧ t.hum.toInt = 0 ∧
    t.temp.toInt = 0 ∧ t.timer.toNat = 0 ∧ t.irq = false ∧ t.statusWord = 0x00050000 ∧
    t.fifoDepth = s.fifoDepth ∧ t.paramWord = s.paramWord ∧ Returns .rdId t (fun v => v.toNat = 0x44485453)

/-! ## Reads (40_register_access.md) -/

/-- R101, R102, R104, R118: ID, PARAM, CMD and the reserved indices. -/
def Obligations.ReadsOfConstants : Prop :=
  ∀ (s : State) (idx : Index),
    Returns .rdId s (fun v => v.toNat = 0x44485453) ∧
    Returns .rdParam s (fun v => v.toNat = s.fifoDepth + 0x100 ∧ (s.fifoDepth = 64 → v = 0x00000140)) ∧
    Returns .rdCmd s (fun v => v.toNat = 0) ∧
    Returns (.rdRsvd18To19 idx) s (fun v => v.toNat = 0) ∧
    Returns (.rdRsvd20To23 idx) s (fun v => v.toNat = 0) ∧
    Returns (.rdRsvd24To31 idx) s (fun v => v.toNat = 0)

/-- R103, R106, R107, R108, R109: the configuration registers. -/
def Obligations.ReadsOfConfiguration : Prop :=
  ∀ s : State,
    Returns .rdCtrl s (fun v => v.toNat =
      (if s.model = .dht22 then 1 else 0) + (if s.csumMode = .modTest then 2 else 0) + (if s.ie then 4 else 0)) ∧
    Returns .rdStartLow s (fun v => v.toNat = s.startLow.toNat ∧ (s.Inv → 18000 ≤ v.toNat)) ∧
    Returns .rdRelease s (fun v => v.toNat = s.release.toNat) ∧
    Returns .rdWindow s (fun v => v.toNat = s.window.toNat) ∧
    Returns .rdThresh s (fun v => v.toNat = s.thresh.toNat)

/-- R105, R27: a read of STATUS shows every field at its bit, reserved bits 0, and clears nothing. -/
def Obligations.StatusReadShowsEveryField : Prop :=
  ∀ s : State, Returns .rdStatus s fun v =>
    v.getLsbD 0 = decide (s.phase ≠ .idle) ∧ v.getLsbD 1 = s.done ∧ v.getLsbD 2 = decide (s.result = .success) ∧
    v.getLsbD 3 = s.cmdErr ∧ v.getLsbD 4 = s.wrErr ∧ v.getLsbD 5 = s.rdErr ∧ v.getLsbD 6 = s.ovf ∧
    v.getLsbD 7 = (s.done && s.ie) ∧
    v.toNat / 2 ^ 8 % 8 = (match s.result with
      | .none => 0 | .success => 1 | .noResponse => 2 | .incorrectByteCount => 3 | .checksumMismatch => 4) ∧
    v.getLsbD 11 = false ∧
    v.toNat / 2 ^ 12 % 8 = (match s.phase with
      | .idle => 0 | .start => 1 | .release => 2 | .capture => 3 | .restore => 4) ∧
    v.getLsbD 15 = false ∧ v.getLsbD 16 = s.line ∧ v.getLsbD 17 = s.oe ∧ v.getLsbD 18 = s.out ∧
    ∀ k, 19 ≤ k → v.getLsbD k = false

/-- R110, R111, R112, R117: EDGE_COUNT, BITCOUNT, FIFO_LEVEL and TIMER. -/
def Obligations.ReadsOfCounters : Prop :=
  ∀ s : State,
    Returns .rdEdgeCount s (fun v => v.toNat = s.edgeCount.toNat) ∧
    Returns .rdBitcount s (fun v => v.toNat = s.bitCount.toNat) ∧
    Returns .rdFifoLevel s (fun v => v.toNat = s.rptr % 256 * 256 + s.fill % 256 ∧
      (s.Inv → v.toNat = s.rptr * 256 + s.fill)) ∧
    Returns .rdTimer s (fun v => v.toNat = s.timer.toNat)

/-- R113, R114, R39: RAW_LO and RAW_HI, with CSUM_CALC computed from the current bytes. -/
def Obligations.ReadsOfTheFrame : Prop :=
  ∀ s : State,
    Returns .rdRawLo s (fun v =>
      v.toNat = s.raw.b3.toNat * 2 ^ 24 + s.raw.b2.toNat * 2 ^ 16 + s.raw.b1.toNat * 2 ^ 8 + s.raw.b0.toNat) ∧
    Returns .rdRawHi s (fun v => v.toNat = s.raw.fullSum % 256 * 256 + s.raw.b4.toNat)

/-- R115, R116: HUM and TEMP, as two's complement; 0 whenever RESULT is not SUCCESS. -/
def Obligations.ReadsOfResults : Prop :=
  ∀ s : State,
    Returns .rdHum s (fun v => v.toInt = s.hum.toInt ∧ (s.Inv → s.result ≠ .success → v = 0)) ∧
    Returns .rdTemp s (fun v => v.toInt = s.temp.toInt ∧ (s.Inv → s.result ≠ .success → v = 0))

/-- R69, R257: every read but the pop changes nothing in the block, and repeating it returns the same word. -/
def Obligations.ReadsButThePopAreRepeatable : Prop :=
  ∀ (i : Instr) (s : State), (encodeWord i).getLsbD 37 = false → i ≠ .rdTsData →
    ∃ v, exec i s = .next { s with rdata := some v } ∧
      exec i { s with rdata := some v } = .next { s with rdata := some v }

/-- R154: the pop returns the entry at RPTR and moves RPTR, or returns 0 and flags RDERR; in every phase. -/
def Obligations.PopReturnsTheNextEntry : Prop :=
  ∀ s : State,
    (s.rptr < s.fill → ∃ v : Word, exec .rdTsData s = .next { s with rptr := s.rptr + 1, rdata := some v } ∧
      v.toNat = (s.edgeAt s.rptr).toNat) ∧
    (s.fill ≤ s.rptr → exec .rdTsData s = .next { s with rdErr := true, rdata := some 0 })

/-! ## Writes (40_register_access.md) -/

/-- R119, R120, R128, R129, R130, R133, R134, R135, R136, R137: the writes that change nothing and set no flag, and
NOP, which changes nothing in any phase. -/
def Obligations.IgnoredWritesAndNopChangeNothing : Prop :=
  ∀ (s : State) (w : Word) (idx : Index),
    NoEffect .nop s ∧
    NoEffect (.wrId w) s ∧ NoEffect (.wrParam w) s ∧ NoEffect (.wrEdgeCount w) s ∧ NoEffect (.wrBitcount w) s ∧
    NoEffect (.wrFifoLevel w) s ∧ NoEffect (.wrHum w) s ∧ NoEffect (.wrTemp w) s ∧ NoEffect (.wrTimer w) s ∧
    NoEffect (.wrRsvd18To19 idx w) s ∧ NoEffect (.wrRsvd20To23 idx w) s ∧ NoEffect (.wrRsvd24To31 idx w) s

/-- R121: WR_CTRL stores three bits while IDLE, raising IRQ at once where DONE is 1, and is rejected while
BUSY. -/
def Obligations.WrCtrlStoresItsThreeBits : Prop :=
  ∀ (s : State) (w : Word),
    (s.phase = .idle → ∃ t, exec (.wrCtrl w) s = .next t ∧
      t = { s with
        model := if w.getLsbD 0 then .dht22 else .dht11
        csumMode := if w.getLsbD 1 then .modTest else .andTest
        ie := w.getLsbD 2 } ∧
      (s.done = true → w.getLsbD 2 = true → t.irq = true)) ∧
    (s.phase ≠ .idle → OnlyWrErr (.wrCtrl w) s)

/-- R124: WR_START_LOW stores `max(WDATA[15:0], 18000)`. -/
def Obligations.WrStartLowKeepsTheFloor : Prop :=
  ∀ (s : State) (w : Word),
    (s.phase = .idle → ∃ v : Half, exec (.wrStartLow w) s = .next { s with startLow := v } ∧
      v.toNat = max (w.toNat % 65536) 18000) ∧
    (s.phase ≠ .idle → OnlyWrErr (.wrStartLow w) s)

/-- R125, R126, R127: WR_RELEASE, WR_WINDOW and WR_THRESH store the low bits while IDLE. -/
def Obligations.WrReleaseWindowThreshStoreLowBits : Prop :=
  ∀ (s : State) (w : Word),
    (s.phase = .idle →
      (∃ v : Byte, exec (.wrRelease w) s = .next { s with release := v } ∧ v.toNat = w.toNat % 256) ∧
      (∃ v : Half, exec (.wrWindow w) s = .next { s with window := v } ∧ v.toNat = w.toNat % 65536) ∧
      (∃ v : Half, exec (.wrThresh w) s = .next { s with thresh := v } ∧ v.toNat = w.toNat % 65536)) ∧
    (s.phase ≠ .idle → OnlyWrErr (.wrRelease w) s ∧ OnlyWrErr (.wrWindow w) s ∧ OnlyWrErr (.wrThresh w) s)

/-- R123: WR_STATUS clears the flags written as 1, in every phase, and nothing else; writing the value just read
clears every flag that was set; clearing DONE drops IRQ. -/
def Obligations.WrStatusClearsTheWrittenFlags : Prop :=
  ∀ (s : State) (w : Word),
    (∃ d c e r o : Bool,
      exec (.wrStatus w) s = .next { s with done := d, cmdErr := c, wrErr := e, rdErr := r, ovf := o } ∧
      (d = true ↔ s.done = true ∧ w.getLsbD 1 = false) ∧ (c = true ↔ s.cmdErr = true ∧ w.getLsbD 3 = false) ∧
      (e = true ↔ s.wrErr = true ∧ w.getLsbD 4 = false) ∧ (r = true ↔ s.rdErr = true ∧ w.getLsbD 5 = false) ∧
      (o = true ↔ s.ovf = true ∧ w.getLsbD 6 = false)) ∧
    (w.getLsbD 1 = true → ∃ t, exec (.wrStatus w) s = .next t ∧ t.irq = false) ∧
    exec (.wrStatus s.statusWord) s =
      .next { s with done := false, cmdErr := false, wrErr := false, rdErr := false, ovf := false }

/-- R131, R132: writes of RAW while IDLE set the bytes and recompute nothing; RAW_LO then reads back what was
written. -/
def Obligations.RawWritesSetTheBytes : Prop :=
  ∀ (s : State) (w : Word),
    (s.phase = .idle →
      (∃ b0 b1 b2 b3 : Byte, exec (.wrRawLo w) s = .next { s with raw := ⟨b0, b1, b2, b3, s.raw.b4⟩ } ∧
        w.toNat = b3.toNat * 2 ^ 24 + b2.toNat * 2 ^ 16 + b1.toNat * 2 ^ 8 + b0.toNat ∧
        Returns .rdRawLo { s with raw := ⟨b0, b1, b2, b3, s.raw.b4⟩ } (fun v => v = w)) ∧
      (∃ b4 : Byte, exec (.wrRawHi w) s = .next { s with raw := ⟨s.raw.b0, s.raw.b1, s.raw.b2, s.raw.b3, b4⟩ } ∧
        b4.toNat = w.toNat % 256)) ∧
    (s.phase ≠ .idle → OnlyWrErr (.wrRawLo w) s ∧ OnlyWrErr (.wrRawHi w) s)

/-! ## Commands (40_register_access.md, 41_sampler.md) -/

/-- R122: how a write to CMD is dispatched, for every command word and in every phase. -/
def Obligations.CommandWordDispatch : Prop :=
  ∀ (s : State) (w : Word), exec (decodeWord (accessWord true 3 w)) s =
    if w = 0 then .next s
    else if w ≠ 1 ∧ w ≠ 2 ∧ w ≠ 3 ∧ w ≠ 4 then .next { s with cmdErr := true }
    else if s.phase ≠ .idle then .next { s with cmdErr := true }
    else if w = 1 then exec .start s
    else if w = 2 then exec .decode s
    else if w = 3 then exec .interpret s
    else exec .clear s

/-- R139: every reserved command word sets CMDERR and changes nothing else, in every phase. -/
def Obligations.ReservedCommandsOnlySetCmdErr : Prop :=
  ∀ (s : State) (w : Word),
    OnlyCmdErr .cmdRsvd5 s ∧ OnlyCmdErr (.cmdRsvd6To7 w) s ∧ OnlyCmdErr (.cmdRsvdB3 w) s ∧
    OnlyCmdErr (.cmdRsvdB4 w) s ∧ OnlyCmdErr (.cmdRsvdB5 w) s ∧ OnlyCmdErr (.cmdRsvdB6 w) s ∧
    OnlyCmdErr (.cmdRsvdB7 w) s ∧ OnlyCmdErr (.cmdRsvdB8 w) s ∧ OnlyCmdErr (.cmdRsvdB9 w) s ∧
    OnlyCmdErr (.cmdRsvdB10 w) s ∧ OnlyCmdErr (.cmdRsvdB11 w) s ∧ OnlyCmdErr (.cmdRsvdB12 w) s ∧
    OnlyCmdErr (.cmdRsvdB13 w) s ∧ OnlyCmdErr (.cmdRsvdB14 w) s ∧ OnlyCmdErr (.cmdRsvdB15 w) s ∧
    OnlyCmdErr (.cmdRsvdB16 w) s ∧ OnlyCmdErr (.cmdRsvdB17 w) s ∧ OnlyCmdErr (.cmdRsvdB18 w) s ∧
    OnlyCmdErr (.cmdRsvdB19 w) s ∧ OnlyCmdErr (.cmdRsvdB20 w) s ∧ OnlyCmdErr (.cmdRsvdB21 w) s ∧
    OnlyCmdErr (.cmdRsvdB22 w) s ∧ OnlyCmdErr (.cmdRsvdB23 w) s ∧ OnlyCmdErr (.cmdRsvdB24 w) s ∧
    OnlyCmdErr (.cmdRsvdB25 w) s ∧ OnlyCmdErr (.cmdRsvdB26 w) s ∧ OnlyCmdErr (.cmdRsvdB27 w) s ∧
    OnlyCmdErr (.cmdRsvdB28 w) s ∧ OnlyCmdErr (.cmdRsvdB29 w) s ∧ OnlyCmdErr (.cmdRsvdB30 w) s ∧
    OnlyCmdErr (.cmdRsvdB31 w) s

/-- R138, R140: CLEAR empties the trace and clears the results, DONE and OVF while IDLE, and is rejected while
BUSY. -/
def Obligations.ClearDiscardsTraceAndResults : Prop :=
  ∀ s : State,
    (s.phase = .idle → exec .clear s = .next { s with
      fill := 0, rptr := 0, edgeCount := 0, bitCount := 0, result := .none, raw := ⟨0, 0, 0, 0, 0⟩, hum := 0,
      temp := 0, done := false, ovf := false }) ∧
    (s.phase ≠ .idle → OnlyCmdErr .clear s)

/-- R142: START clears the data and drives the line low from the access on, and is rejected while BUSY. -/
def Obligations.StartBeginsATransaction : Prop :=
  ∀ s : State,
    (s.phase = .idle → exec .start s = .next { s with
      fill := 0, rptr := 0, edgeCount := 0, bitCount := 0, result := .none, raw := ⟨0, 0, 0, 0, 0⟩, hum := 0,
      temp := 0, done := false, ovf := false, phase := .start, cnt := 0, oe := true, out := false }) ∧
    (s.phase ≠ .idle → OnlyCmdErr .start s)

/-! ## The FIFO (41_sampler.md) -/

/-- R155, R150: a push while IDLE appends the low half at S, counts it with saturation, and changes nothing else;
on a full FIFO it only counts and flags OVF; while BUSY it only flags WRERR. -/
def Obligations.PushAppendsOneTimestamp : Prop :=
  ∀ (s : State) (w : Word),
    (s.phase = .idle → s.fill < s.fifoDepth → ∃ t, exec (.wrTsData w) s = .next t ∧
      (t.edgeAt s.fill).toNat = w.toNat % 65536 ∧ (∀ j, j ≠ s.fill → t.edgeAt j = s.edgeAt j) ∧
      t.edgeCount.toNat = min (s.edgeCount.toNat + 1) 65535 ∧
      t = { s with edge := t.edge, fill := s.fill + 1, edgeCount := t.edgeCount }) ∧
    (s.phase = .idle → s.fifoDepth ≤ s.fill → ∃ t, exec (.wrTsData w) s = .next t ∧
      t.edgeCount.toNat = min (s.edgeCount.toNat + 1) 65535 ∧
      t = { s with ovf := true, edgeCount := t.edgeCount }) ∧
    (s.phase ≠ .idle → OnlyWrErr (.wrTsData w) s)

/-! ## The tick (41_sampler.md) -/

/-- R143, 20_memory.md R72: every tick, in every phase, counts TIMER and samples LINE, and leaves the configuration,
the error flags CMDERR, WRERR and RDERR, RPTR and FIFO_DEPTH alone. -/
def Obligations.EveryTickCountsAndSamples : Prop :=
  ∀ (s : State) (level : Bool), ∃ t, t = tick level s ∧
    t.timer.toNat = (s.timer.toNat + 1) % 2 ^ 32 ∧ t.line = level ∧
    t.model = s.model ∧ t.csumMode = s.csumMode ∧ t.ie = s.ie ∧ t.startLow = s.startLow ∧
    t.release = s.release ∧ t.window = s.window ∧ t.thresh = s.thresh ∧ t.cmdErr = s.cmdErr ∧
    t.wrErr = s.wrErr ∧ t.rdErr = s.rdErr ∧ t.rptr = s.rptr ∧ t.fifoDepth = s.fifoDepth ∧ t.rdata = s.rdata

/-- R144: a tick in IDLE changes only TIMER and LINE. -/
def Obligations.IdleTickChangesOnlyTimerAndLine : Prop :=
  ∀ (s : State) (level : Bool), s.phase = .idle →
    tick level s = { s with timer := s.timer + 1, line := level }

/-- R145, R146, R148: a tick in START counts, or ends the start pulse: into RELEASE, or with RELEASE = 0 into CAPTURE,
or with WINDOW = 0 too into RESTORE. -/
def Obligations.StartTick : Prop :=
  ∀ (s : State) (level : Bool), s.phase = .start →
    (s.cnt.toNat + 1 < s.startLow.toNat →
      tick level s = { s with timer := s.timer + 1, line := level, cnt := s.cnt + 1 }) ∧
    (s.startLow.toNat ≤ s.cnt.toNat + 1 → s.release ≠ 0 →
      tick level s = { s with
        timer := s.timer + 1, line := level, phase := .release, cnt := 0, oe := true, out := true }) ∧
    (s.startLow.toNat ≤ s.cnt.toNat + 1 → s.release = 0 →
      tick level s = { s with
        timer := s.timer + 1, line := level, oe := false, prev := true, cnt := 0
        phase := if s.window = 0 then .restore else .capture })

/-- R147, R148: a tick in RELEASE counts, or releases the pin: into CAPTURE, or with WINDOW = 0 into RESTORE. -/
def Obligations.ReleaseTick : Prop :=
  ∀ (s : State) (level : Bool), s.phase = .release →
    (s.cnt.toNat + 1 < s.release.toNat →
      tick level s = { s with timer := s.timer + 1, line := level, cnt := s.cnt + 1 }) ∧
    (s.release.toNat ≤ s.cnt.toNat + 1 →
      tick level s = { s with
        timer := s.timer + 1, line := level, oe := false, prev := true, cnt := 0
        phase := if s.window = 0 then .restore else .capture })

/-- R149, R150: a tick in CAPTURE takes one sample; it records CNT exactly when a 0 follows a 1, and ends the window
at its last sample. -/
def Obligations.CaptureTick : Prop :=
  ∀ (s : State) (level : Bool), s.phase = .capture → ∃ t, t = tick level s ∧
    t = { s with
      timer := s.timer + 1, line := level, prev := level, phase := t.phase, cnt := t.cnt, edge := t.edge
      fill := t.fill, ovf := t.ovf, edgeCount := t.edgeCount } ∧
    (s.cnt.toNat + 1 < s.window.toNat → t.phase = .capture ∧ t.cnt = s.cnt + 1) ∧
    (s.window.toNat ≤ s.cnt.toNat + 1 → t.phase = .restore ∧ t.cnt = 0) ∧
    (¬ (s.prev = true ∧ level = false) →
      t.edge = s.edge ∧ t.fill = s.fill ∧ t.ovf = s.ovf ∧ t.edgeCount = s.edgeCount) ∧
    (s.prev = true ∧ level = false → t.edgeCount.toNat = min (s.edgeCount.toNat + 1) 65535) ∧
    (s.prev = true ∧ level = false → s.fill < s.fifoDepth →
      t.edgeAt s.fill = s.cnt ∧ (∀ j, j ≠ s.fill → t.edgeAt j = s.edgeAt j) ∧ t.fill = s.fill + 1 ∧
      t.ovf = s.ovf) ∧
    (s.prev = true ∧ level = false → s.fifoDepth ≤ s.fill →
      t.edge = s.edge ∧ t.fill = s.fill ∧ t.ovf = true)

/-- R151: the tick in RESTORE drives the pin high, leaves exactly what DECODE would leave for the same trace, and
ends the transaction with DONE. -/
def Obligations.RestoreTickDecodes : Prop :=
  ∀ (s : State) (level : Bool), s.phase = .restore →
    ∃ t, exec .decode { s with phase := .idle } = .next t ∧ t.done = true ∧
      tick level s = { t with
        timer := s.timer + 1, line := level, oe := true, out := true, phase := .idle, cnt := 0 }

/-- R152, R153, R263: a transaction, tick by tick, from the START access: the phases, the pin, and after exactly
`L + R + W + 1` ticks IDLE with DONE, a result, and the pin driven high. -/
def Obligations.TransactionTimeline : Prop :=
  ∀ (s u : State) (levels : List Bool), s.Inv → s.phase = .idle → exec .start s = .next u →
    ∃ v, v = runTicks levels u ∧ v.timer.toNat = (s.timer.toNat + levels.length) % 2 ^ 32 ∧
      s.OnTimeline levels.length v ∧
      (levels.length ≤ s.ticksToRestore → v.done = false ∧ v.result = .none) ∧
      (s.ticksToRestore < levels.length → v.phase = .idle ∧ v.cnt = 0 ∧ v.oe = true ∧ v.out = true ∧
        v.done = true ∧ v.result ≠ .none) ∧
      v.startLow = s.startLow ∧ v.release = s.release ∧ v.window = s.window ∧ v.thresh = s.thresh ∧
      v.model = s.model ∧ v.csumMode = s.csumMode ∧ v.ie = s.ie

/-- R70, R100, R255, R263: the timeline holds whatever the host does meanwhile: with any accesses between the ticks
and no reset, phase, pin, configuration and line samples' trace go by the number of ticks alone. -/
def Obligations.TimelineHoldsUnderAnyHostAccess : Prop :=
  ∀ (s u v : State) (es : List Event), s.Inv → s.phase = .idle → exec .start s = .next u → .reset ∉ es →
    Sys2Proof.core.run es.length { u with events := es } = .next v → es.countP isTick ≤ s.ticksToRestore →
    s.OnTimeline (es.countP isTick) v ∧
    sameTransaction (runTicks (es.filterMap fun e => match e with | .tick l => some l | _ => none) u) v

/-- R149, R156, R157: the trace of a window is its falling edges: N counts them, EDGE holds the sample indices of the
first FIFO_DEPTH of them in order, and OVF tells whether there were more. -/
def Obligations.CaptureRecordsTheFallingEdges : Prop :=
  ∀ (s : State) (levels : List Bool), s.phase = .capture → s.cnt = 0 → s.prev = true → s.fill = 0 →
    s.edgeCount = 0 → s.ovf = false → levels.length ≤ s.window.toNat → 0 < s.window.toNat →
    ∃ t, t = runTicks levels s ∧
      t.edgeCount.toNat = (fallingEdges levels).length ∧
      t.fill = min (fallingEdges levels).length s.fifoDepth ∧
      (∀ k, k < t.fill → (fallingEdges levels)[k]? = some (t.edgeAt k).toNat) ∧
      (t.ovf = true ↔ s.fifoDepth < (fallingEdges levels).length) ∧
      t.phase = if levels.length = s.window.toNat then .restore else .capture

/-- R157, R152, R171, R172: a transaction whose line never falls in the window ends with NO_RESPONSE and N = 0; one
whose line is low for the whole window ends with one edge, at timestamp 0, and INCORRECT_BYTE_COUNT with BITCOUNT
0. -/
def Obligations.SilentAndStuckLines : Prop :=
  ∀ (s u : State) (levels : List Bool), s.Inv → s.phase = .idle → exec .start s = .next u →
    levels.length = s.ticksToRestore + 1 → ∃ v, v = runTicks levels u ∧
      (s.windowLevels levels = List.replicate s.window.toNat true →
        v.result = .noResponse ∧ v.edgeCount = 0 ∧ v.fill = 0 ∧ v.bitCount = 0) ∧
      (0 < s.window.toNat → s.windowLevels levels = List.replicate s.window.toNat false →
        v.result = .incorrectByteCount ∧ v.edgeCount = 1 ∧ v.fill = 1 ∧ v.edgeAt 0 = 0 ∧ v.bitCount = 0)

/-- R152, R157, R225: a transaction reports by the number of falling edges in its window: NO_RESPONSE for none,
INCORRECT_BYTE_COUNT for any number but 41 and 42, and else SUCCESS or CHECKSUM_MISMATCH with BITCOUNT 40. -/
def Obligations.TransactionReportsItsEdgeCount : Prop :=
  ∀ (s u : State) (levels : List Bool), s.Inv → s.phase = .idle → exec .start s = .next u →
    levels.length = s.ticksToRestore + 1 → ∃ v n, v = runTicks levels u ∧
      n = (fallingEdges (s.windowLevels levels)).length ∧ v.edgeCount.toNat = n ∧
      (n = 0 → v.result = .noResponse ∧ v.bitCount.toNat = 0) ∧
      (n ≠ 0 → n ≠ 41 → n ≠ 42 → v.result = .incorrectByteCount ∧ v.bitCount.toNat = n - 1) ∧
      (n = 41 ∨ n = 42 → (v.result = .success ∨ v.result = .checksumMismatch) ∧ v.bitCount.toNat = 40)

/-! ## The frame decoder (42_frame_decoder.md) -/

/-- R171: DECODE of an empty trace. -/
def Obligations.DecodeOfAnEmptyTrace : Prop :=
  ∀ s : State, s.phase = .idle → s.edgeCount = 0 → exec .decode s = .next { s with
    result := .noResponse, bitCount := 0, raw := ⟨0, 0, 0, 0, 0⟩, hum := 0, temp := 0, done := true }

/-- R172: DECODE of a trace with a wrong edge count, whatever S is. -/
def Obligations.DecodeOfAWrongEdgeCount : Prop :=
  ∀ s : State, s.phase = .idle → 1 ≤ s.edgeCount.toNat → s.edgeCount.toNat ≠ 41 → s.edgeCount.toNat ≠ 42 →
    ∃ b : Half, b.toNat = s.edgeCount.toNat - 1 ∧ exec .decode s = .next { s with
      result := .incorrectByteCount, bitCount := b, raw := ⟨0, 0, 0, 0, 0⟩, hum := 0, temp := 0, done := true }

/-- R173, R174, R175, R176, R177: DECODE of a trace with 41 or 42 edges: bit `i` of the frame, in RAW[i / 8] at
position `7 − i mod 8`, is 1 exactly when the signed interval `i` from `off = N − 41` reaches THRESH; the rest is
what INTERPRET makes of the packed frame. -/
def Obligations.DecodePacksTheThresholdedIntervals : Prop :=
  ∀ s : State, s.phase = .idle → s.edgeCount.toNat = 41 ∨ s.edgeCount.toNat = 42 →
    ∃ t, exec .decode s = .next t ∧ t.bitCount.toNat = 40 ∧
      (∀ i, i < 40 → ((t.raw.byte (i / 8)).getLsbD (7 - i % 8) = true ↔
        (s.thresh.toNat : Int) ≤ ((s.edgeAt (s.edgeCount.toNat - 41 + i + 1)).toNat : Int)
          - ((s.edgeAt (s.edgeCount.toNat - 41 + i)).toNat : Int))) ∧
      exec .interpret { s with raw := t.raw, bitCount := 40 } = .next t

/-- R173 (the source's property): a trace of 42 edges decodes as the 41 that are left when its leading edge is
removed. -/
def Obligations.FortyTwoEdgesDecodeAsFortyOne : Prop :=
  ∀ s s' : State, s.phase = .idle → s'.phase = .idle → s.edgeCount = 42 → s'.edgeCount = 41 →
    s.thresh = s'.thresh → s.model = s'.model → s.csumMode = s'.csumMode →
    (∀ i, i ≤ 40 → s.edgeAt (i + 1) = s'.edgeAt i) →
    ∃ t t', exec .decode s = .next t ∧ exec .decode s' = .next t' ∧ t.result = t'.result ∧ t.raw = t'.raw ∧
      t.hum = t'.hum ∧ t.temp = t'.temp ∧ t.bitCount = t'.bitCount

/-- R179: DECODE is idempotent, and a pop between two DECODEs changes none of the results. -/
def Obligations.DecodeIsIdempotent : Prop :=
  ∀ s : State, s.phase = .idle → ∃ t, exec .decode s = .next t ∧ exec .decode t = .next t ∧
    ∀ p, exec .rdTsData t = .next p → exec .decode p = .next p ∧ p.result = t.result ∧ p.raw = t.raw ∧
      p.hum = t.hum ∧ p.temp = t.temp ∧ p.bitCount = t.bitCount

/-! ## Checksum and interpreter (43_checksum.md, 44_interpreter.md) -/

/-- R193, R200, R206, R207: INTERPRET of a frame that fails the checksum test of its mode. The AND test is written on
the untruncated sum, as the source writes it (R190, R191); the MOD test is R192's. -/
def Obligations.InterpretOfAFailedChecksum : Prop :=
  ∀ s : State, s.phase = .idle →
    (s.csumMode = .andTest ∧ s.raw.fullSum &&& s.raw.b4.toNat ≠ s.raw.b4.toNat) ∨
      (s.csumMode = .modTest ∧ s.raw.fullSum % 256 ≠ s.raw.b4.toNat) →
    exec .interpret s = .next { s with result := .checksumMismatch, hum := 0, temp := 0, done := true }

/-- R201, R202, R207: INTERPRET of a frame that passes, as a DHT11; byte 2's high bit is masked off and ignored. -/
def Obligations.InterpretAsDht11 : Prop :=
  ∀ s : State, s.phase = .idle → s.model = .dht11 →
    (s.csumMode = .andTest ∧ s.raw.fullSum &&& s.raw.b4.toNat = s.raw.b4.toNat) ∨
      (s.csumMode = .modTest ∧ s.raw.fullSum % 256 = s.raw.b4.toNat) →
    ∃ h t : Word, exec .interpret s = .next { s with result := .success, hum := h, temp := t, done := true } ∧
      h.toInt = s.raw.b0.toNat * 100 + s.raw.b1.toNat ∧
      t.toInt = s.raw.b2.toNat % 128 * 100 + s.raw.b3.toNat

/-- R203, R204, R207: INTERPRET of a frame that passes, as a DHT22; byte 2's high bit is the sign. -/
def Obligations.InterpretAsDht22 : Prop :=
  ∀ s : State, s.phase = .idle → s.model = .dht22 →
    (s.csumMode = .andTest ∧ s.raw.fullSum &&& s.raw.b4.toNat = s.raw.b4.toNat) ∨
      (s.csumMode = .modTest ∧ s.raw.fullSum % 256 = s.raw.b4.toNat) →
    ∃ h t : Word, exec .interpret s = .next { s with result := .success, hum := h, temp := t, done := true } ∧
      h.toInt = (s.raw.b0.toNat * 256 + s.raw.b1.toNat) * 10 ∧
      t.toInt = (if 128 ≤ s.raw.b2.toNat then -1 else 1) * ((s.raw.b2.toNat % 128 * 256 + s.raw.b3.toNat) * 10)

/-- R208: the ranges of HUM and TEMP after a successful INTERPRET. -/
def Obligations.InterpretedValuesStayInRange : Prop :=
  ∀ s t : State, s.phase = .idle → exec .interpret s = .next t → t.result = .success →
    (s.model = .dht11 → 0 ≤ t.hum.toInt ∧ t.hum.toInt ≤ 25755 ∧ 0 ≤ t.temp.toInt ∧ t.temp.toInt ≤ 12955) ∧
    (s.model = .dht22 → 0 ≤ t.hum.toInt ∧ t.hum.toInt ≤ 655350 ∧
      -327670 ≤ t.temp.toInt ∧ t.temp.toInt ≤ 327670)

/-- R194: the six properties of the two checksum tests; of the sixth both sentences: equal sum8 and checksum byte
give equal outcomes, and so does a permutation of the four data bytes. -/
def Obligations.ChecksumTestProperties : Prop :=
  ∀ f : RawFrame,
    (csumOk .modTest f = true → csumOk .andTest f = true) ∧
    (f.b4 = 0 → csumOk .andTest f = true ∧ (csumOk .modTest f = true ↔ f.sum8 = 0)) ∧
    (f.sum8 = 0xFF → csumOk .andTest f = true) ∧
    ((List.range 256).countP (fun k => csumOk .andTest { f with b4 := BitVec.ofNat 8 k }) =
        2 ^ (List.range 8).countP (fun k => f.sum8.getLsbD k) ∧
      (List.range 256).countP (fun k => csumOk .modTest { f with b4 := BitVec.ofNat 8 k }) = 1) ∧
    (f = ⟨0, 0, 0, 0, 0⟩ → ∀ m, csumOk m f = true) ∧
    (∀ g : RawFrame, g.sum8 = f.sum8 → g.b4 = f.b4 → ∀ m, csumOk m g = csumOk m f) ∧
    (∀ g : RawFrame, [g.b0, g.b1, g.b2, g.b3].Perm [f.b0, f.b1, f.b2, f.b3] → g.b4 = f.b4 →
      ∀ m, csumOk m g = csumOk m f)

/-! ## Invariants (10_state.md R45, 41_sampler.md R156) -/

/-- R45 (items 1 to 5), R23, R35: every step of every agent keeps the invariant. -/
def Obligations.StepKeepsTheInvariant : Prop :=
  ∀ s t : State, s.Inv → step s = .next t → t.Inv

/-- R156: every step keeps the order of the captured timestamps: rising by at least 2, inside the window. -/
def Obligations.StepKeepsTheTraceOrdered : Prop :=
  ∀ s t : State, s.TraceOrdered → step s = .next t → t.TraceOrdered

/-- R45 item 6: after a failed decode RAW stays zero until a host write to RAW_LO or RAW_HI. -/
def Obligations.FailedFramesStayZero : Prop :=
  ∀ s t : State, s.FailedFrameZero → step s = .next t →
    (∀ w, hostOp (nextEvent s) ≠ some (.wrRawLo w) ∧ hostOp (nextEvent s) ≠ some (.wrRawHi w)) →
    t.FailedFrameZero

/-- The invariants hold at reset (R46). -/
def Obligations.ResetMeetsTheInvariants : Prop :=
  State.reset.Inv ∧ State.reset.TraceOrdered ∧ State.reset.FailedFrameZero

/-! ## Rules about the whole block -/

/-- 10_state.md R28: a sticky flag is cleared only by its W1C bit, by reset, and DONE and OVF by an accepted START or
CLEAR. -/
def Obligations.StickyFlagsAreSticky : Prop :=
  ∀ s t : State, step s = .next t →
    (s.cmdErr = true → t.cmdErr = true ∨ nextEvent s = .reset ∨
      ∃ w, hostOp (nextEvent s) = some (.wrStatus w) ∧ w.getLsbD 3 = true) ∧
    (s.wrErr = true → t.wrErr = true ∨ nextEvent s = .reset ∨
      ∃ w, hostOp (nextEvent s) = some (.wrStatus w) ∧ w.getLsbD 4 = true) ∧
    (s.rdErr = true → t.rdErr = true ∨ nextEvent s = .reset ∨
      ∃ w, hostOp (nextEvent s) = some (.wrStatus w) ∧ w.getLsbD 5 = true) ∧
    (s.ovf = true → t.ovf = true ∨ nextEvent s = .reset ∨
      (∃ w, hostOp (nextEvent s) = some (.wrStatus w) ∧ w.getLsbD 6 = true) ∨
      s.phase = .idle ∧ (hostOp (nextEvent s) = some .start ∨ hostOp (nextEvent s) = some .clear)) ∧
    (s.done = true → t.done = true ∨ nextEvent s = .reset ∨
      (∃ w, hostOp (nextEvent s) = some (.wrStatus w) ∧ w.getLsbD 1 = true) ∨
      s.phase = .idle ∧ (hostOp (nextEvent s) = some .start ∨ hostOp (nextEvent s) = some .clear))

/-- 60_exceptions.md R227, R222: which access can set which error flag, and that it then sets no other; and what one
tick can set. -/
def Obligations.OneErrorFlagPerAccess : Prop :=
  (∀ (i : Instr) (s t : State), exec i s = .next t →
    (t.cmdErr = true → s.cmdErr = false → isCommand i = true ∧ t = { s with cmdErr := true }) ∧
    (t.wrErr = true → s.wrErr = false →
      isGuardedWrite i = true ∧ s.phase ≠ .idle ∧ t = { s with wrErr := true }) ∧
    (t.rdErr = true → s.rdErr = false →
      i = .rdTsData ∧ s.fill ≤ s.rptr ∧ t = { s with rdErr := true, rdata := some 0 }) ∧
    (t.ovf = true → s.ovf = false → (∃ w, i = .wrTsData w) ∧ s.phase = .idle ∧ s.fifoDepth ≤ s.fill ∧
      t.cmdErr = s.cmdErr ∧ t.wrErr = s.wrErr ∧ t.rdErr = s.rdErr)) ∧
  ∀ (s : State) (level : Bool), ∃ t, t = tick level s ∧
    t.cmdErr = s.cmdErr ∧ t.wrErr = s.wrErr ∧ t.rdErr = s.rdErr ∧
    (t.ovf = true → s.ovf = false → s.phase = .capture ∧ t.done = s.done) ∧
    (t.done = true → s.done = false → s.phase = .restore ∧ t.ovf = s.ovf)

/-- 40_register_access.md R100, 70_reset_and_hazards.md R255: while BUSY no host operation changes anything but the
sticky flags, RPTR and what a read returns. -/
def Obligations.BusyTransactionIsIsolatedFromTheHost : Prop :=
  ∀ (i : Instr) (s : State), s.phase ≠ .idle → ∃ t, exec i s = .next t ∧ sameTransaction s t

/-- 70_reset_and_hazards.md R263, R258: while IDLE, RESULT, BITCOUNT, HUM and TEMP change only by START, DECODE,
INTERPRET, CLEAR and reset; RAW only by those and RAW writes; the stored trace only by START, CLEAR, reset and
pushes. -/
def Obligations.IdleResultsChangeOnlyOnCommand : Prop :=
  ∀ s t : State, s.phase = .idle → step s = .next t → nextEvent s ≠ .reset →
    (t.result = s.result ∧ t.bitCount = s.bitCount ∧ t.hum = s.hum ∧ t.temp = s.temp ∨
      hostOp (nextEvent s) = some .start ∨ hostOp (nextEvent s) = some .decode ∨
      hostOp (nextEvent s) = some .interpret ∨ hostOp (nextEvent s) = some .clear) ∧
    (t.raw = s.raw ∨ hostOp (nextEvent s) = some .start ∨ hostOp (nextEvent s) = some .decode ∨
      hostOp (nextEvent s) = some .clear ∨
      ∃ w, hostOp (nextEvent s) = some (.wrRawLo w) ∨ hostOp (nextEvent s) = some (.wrRawHi w)) ∧
    (t.edge = s.edge ∧ t.fill = s.fill ∧ t.edgeCount = s.edgeCount ∨ hostOp (nextEvent s) = some .start ∨
      hostOp (nextEvent s) = some .clear ∨ ∃ w, hostOp (nextEvent s) = some (.wrTsData w)) ∧
    (t.rptr = s.rptr ∨ hostOp (nextEvent s) = some .start ∨ hostOp (nextEvent s) = some .clear ∨
      hostOp (nextEvent s) = some .rdTsData)

/-- 60_exceptions.md R223, R224: what can raise IRQ and what can drop it. -/
def Obligations.IrqRisesAndFallsOnlyAsListed : Prop :=
  ∀ s t : State, step s = .next t →
    (s.irq = false → t.irq = true →
      (s.phase = .restore ∧ s.ie = true ∧ ∃ level, nextEvent s = .tick level) ∨
      (s.phase = .idle ∧ s.ie = true ∧
        (hostOp (nextEvent s) = some .decode ∨ hostOp (nextEvent s) = some .interpret)) ∨
      (s.phase = .idle ∧ s.done = true ∧ ∃ w, hostOp (nextEvent s) = some (.wrCtrl w) ∧ w.getLsbD 2 = true)) ∧
    (s.irq = true → t.irq = false →
      nextEvent s = .reset ∨ (∃ w, hostOp (nextEvent s) = some (.wrStatus w) ∧ w.getLsbD 1 = true) ∨
      (s.phase = .idle ∧ (hostOp (nextEvent s) = some .start ∨ hostOp (nextEvent s) = some .clear)) ∨
      (s.phase = .idle ∧ ∃ w, hostOp (nextEvent s) = some (.wrCtrl w) ∧ w.getLsbD 2 = false))

/-- 40_register_access.md R102, R120: FIFO_DEPTH, and so PARAM, never changes at run time. -/
def Obligations.FifoDepthNeverChanges : Prop :=
  ∀ s t : State, step s = .next t → t.fifoDepth = s.fifoDepth ∧ t.paramWord = s.paramWord ∧
    42 ≤ t.fifoDepth ∧ t.fifoDepth ≤ 255
end

