-- ==== Sys2Proof/Laws/AccessWord.lean ====
section
/-! SUPPORT. The access word and its parts (30_encoding.md R80). -/

namespace Sys2Proof

/-- Bit `k` of an access word comes from WDATA, IDX or W. -/
theorem accessWord_getLsbD (w : Bool) (i : Index) (d : Word) (k : Nat) :
    (accessWord w i d).getLsbD k =
      if k < 32 then d.getLsbD k else if k < 37 then i.getLsbD (k - 32) else w && decide (k = 37) := by
  have h : (accessWord w i d).getLsbD k = (BitVec.ofBool w ++ i ++ d : BitVec (1 + 5 + 32)).getLsbD k := rfl
  rw [h, BitVec.getLsbD_append, BitVec.getLsbD_append]
  by_cases h1 : k < 32
  · simp [h1]
  · by_cases h2 : k < 37
    · simp [h1, h2, show k - 32 < 5 by omega]
    · by_cases h3 : k = 37
      · subst h3; simp
      · have : ¬ k - 32 < 5 := by omega
        simp only [h1, h2, this, if_false]
        rw [BitVec.getLsbD_of_ge _ _ (by omega)]
        simp [h3]

@[simp] theorem accessWrite_accessWord (w : Bool) (i : Index) (d : Word) :
    accessWrite (accessWord w i d) = w := by
  rw [accessWrite, accessWord_getLsbD]; simp

@[simp] theorem accessIndex_accessWord (w : Bool) (i : Index) (d : Word) :
    accessIndex (accessWord w i d) = i := by
  apply BitVec.eq_of_getLsbD_eq
  intro k hk
  rw [accessIndex, BitVec.getLsbD_extractLsb', accessWord_getLsbD]
  simp [hk, show ¬ 32 + k < 32 by omega, show 32 + k < 37 by omega]

@[simp] theorem accessData_accessWord (w : Bool) (i : Index) (d : Word) :
    accessData (accessWord w i d) = d := by
  apply BitVec.eq_of_getLsbD_eq
  intro k hk
  rw [accessData, BitVec.getLsbD_extractLsb', accessWord_getLsbD]
  simp [hk]

/-- An access word is its parts. -/
theorem accessWord_parts (a : AccessWord) :
    accessWord (accessWrite a) (accessIndex a) (accessData a) = a := by
  apply BitVec.eq_of_getLsbD_eq
  intro k hk
  rw [accessWord_getLsbD]
  by_cases h1 : k < 32
  · simp [h1, accessData]
  · by_cases h2 : k < 37
    · simp [h1, h2, accessIndex, show k - 32 < 5 by omega, show 32 + (k - 32) = k by omega]
    · have h3 : k = 37 := by omega
      subst h3; simp [accessWrite]

/-- Two access words are masked part by part. -/
theorem accessWord_and (w w' : Bool) (i i' : Index) (d d' : Word) :
    accessWord w i d &&& accessWord w' i' d' = accessWord (w && w') (i &&& i') (d &&& d') := by
  apply BitVec.eq_of_getLsbD_eq
  intro k _
  simp only [BitVec.getLsbD_and, accessWord_getLsbD]
  split_ifs <;> simp [Bool.and_assoc, Bool.and_left_comm]

/-- Access words are equal part by part. -/
theorem accessWord_inj (w w' : Bool) (i i' : Index) (d d' : Word) :
    accessWord w i d = accessWord w' i' d' ↔ w = w' ∧ i = i' ∧ d = d' := by
  refine ⟨fun h => ⟨?_, ?_, ?_⟩, by rintro ⟨rfl, rfl, rfl⟩; rfl⟩
  · simpa using congrArg accessWrite h
  · simpa using congrArg accessIndex h
  · simpa using congrArg accessData h

end Sys2Proof
end

