-- ==== Sys2Proof/Laws/State.lean ====
section
/-! SUPPORT. One lemma per field and per named update of the state, each true by definition, so that no later
proof unfolds a record update. -/

namespace Sys2Proof.Machine

/-! ### `respond` -/

@[simp] theorem respond_model (v : Word) (s : State) : (respond v s).model = s.model := rfl
@[simp] theorem respond_csumMode (v : Word) (s : State) : (respond v s).csumMode = s.csumMode := rfl
@[simp] theorem respond_ie (v : Word) (s : State) : (respond v s).ie = s.ie := rfl
@[simp] theorem respond_startLow (v : Word) (s : State) : (respond v s).startLow = s.startLow := rfl
@[simp] theorem respond_release (v : Word) (s : State) : (respond v s).release = s.release := rfl
@[simp] theorem respond_window (v : Word) (s : State) : (respond v s).window = s.window := rfl
@[simp] theorem respond_thresh (v : Word) (s : State) : (respond v s).thresh = s.thresh := rfl
@[simp] theorem respond_done (v : Word) (s : State) : (respond v s).done = s.done := rfl
@[simp] theorem respond_cmdErr (v : Word) (s : State) : (respond v s).cmdErr = s.cmdErr := rfl
@[simp] theorem respond_wrErr (v : Word) (s : State) : (respond v s).wrErr = s.wrErr := rfl
@[simp] theorem respond_rdErr (v : Word) (s : State) : (respond v s).rdErr = s.rdErr := rfl
@[simp] theorem respond_ovf (v : Word) (s : State) : (respond v s).ovf = s.ovf := rfl
@[simp] theorem respond_result (v : Word) (s : State) : (respond v s).result = s.result := rfl
@[simp] theorem respond_phase (v : Word) (s : State) : (respond v s).phase = s.phase := rfl
@[simp] theorem respond_cnt (v : Word) (s : State) : (respond v s).cnt = s.cnt := rfl
@[simp] theorem respond_prev (v : Word) (s : State) : (respond v s).prev = s.prev := rfl
@[simp] theorem respond_line (v : Word) (s : State) : (respond v s).line = s.line := rfl
@[simp] theorem respond_oe (v : Word) (s : State) : (respond v s).oe = s.oe := rfl
@[simp] theorem respond_out (v : Word) (s : State) : (respond v s).out = s.out := rfl
@[simp] theorem respond_edge (v : Word) (s : State) : (respond v s).edge = s.edge := rfl
@[simp] theorem respond_fill (v : Word) (s : State) : (respond v s).fill = s.fill := rfl
@[simp] theorem respond_rptr (v : Word) (s : State) : (respond v s).rptr = s.rptr := rfl
@[simp] theorem respond_edgeCount (v : Word) (s : State) : (respond v s).edgeCount = s.edgeCount := rfl
@[simp] theorem respond_bitCount (v : Word) (s : State) : (respond v s).bitCount = s.bitCount := rfl
@[simp] theorem respond_raw (v : Word) (s : State) : (respond v s).raw = s.raw := rfl
@[simp] theorem respond_hum (v : Word) (s : State) : (respond v s).hum = s.hum := rfl
@[simp] theorem respond_temp (v : Word) (s : State) : (respond v s).temp = s.temp := rfl
@[simp] theorem respond_timer (v : Word) (s : State) : (respond v s).timer = s.timer := rfl
@[simp] theorem respond_extraDepth (v : Word) (s : State) : (respond v s).extraDepth = s.extraDepth := rfl
@[simp] theorem respond_edgeEpoch (v : Word) (s : State) : (respond v s).edgeEpoch = s.edgeEpoch := rfl
@[simp] theorem respond_rdata (v : Word) (s : State) : (respond v s).rdata = some v := rfl
@[simp] theorem respond_events (v : Word) (s : State) : (respond v s).events = s.events := rfl
@[simp] theorem respond_drawn (v : Word) (s : State) : (respond v s).drawn = s.drawn := rfl

/-! ### `flagCmdErr` -/

@[simp] theorem flagCmdErr_model (s : State) : (flagCmdErr s).model = s.model := rfl
@[simp] theorem flagCmdErr_csumMode (s : State) : (flagCmdErr s).csumMode = s.csumMode := rfl
@[simp] theorem flagCmdErr_ie (s : State) : (flagCmdErr s).ie = s.ie := rfl
@[simp] theorem flagCmdErr_startLow (s : State) : (flagCmdErr s).startLow = s.startLow := rfl
@[simp] theorem flagCmdErr_release (s : State) : (flagCmdErr s).release = s.release := rfl
@[simp] theorem flagCmdErr_window (s : State) : (flagCmdErr s).window = s.window := rfl
@[simp] theorem flagCmdErr_thresh (s : State) : (flagCmdErr s).thresh = s.thresh := rfl
@[simp] theorem flagCmdErr_done (s : State) : (flagCmdErr s).done = s.done := rfl
@[simp] theorem flagCmdErr_cmdErr (s : State) : (flagCmdErr s).cmdErr = true := rfl
@[simp] theorem flagCmdErr_wrErr (s : State) : (flagCmdErr s).wrErr = s.wrErr := rfl
@[simp] theorem flagCmdErr_rdErr (s : State) : (flagCmdErr s).rdErr = s.rdErr := rfl
@[simp] theorem flagCmdErr_ovf (s : State) : (flagCmdErr s).ovf = s.ovf := rfl
@[simp] theorem flagCmdErr_result (s : State) : (flagCmdErr s).result = s.result := rfl
@[simp] theorem flagCmdErr_phase (s : State) : (flagCmdErr s).phase = s.phase := rfl
@[simp] theorem flagCmdErr_cnt (s : State) : (flagCmdErr s).cnt = s.cnt := rfl
@[simp] theorem flagCmdErr_prev (s : State) : (flagCmdErr s).prev = s.prev := rfl
@[simp] theorem flagCmdErr_line (s : State) : (flagCmdErr s).line = s.line := rfl
@[simp] theorem flagCmdErr_oe (s : State) : (flagCmdErr s).oe = s.oe := rfl
@[simp] theorem flagCmdErr_out (s : State) : (flagCmdErr s).out = s.out := rfl
@[simp] theorem flagCmdErr_edge (s : State) : (flagCmdErr s).edge = s.edge := rfl
@[simp] theorem flagCmdErr_fill (s : State) : (flagCmdErr s).fill = s.fill := rfl
@[simp] theorem flagCmdErr_rptr (s : State) : (flagCmdErr s).rptr = s.rptr := rfl
@[simp] theorem flagCmdErr_edgeCount (s : State) : (flagCmdErr s).edgeCount = s.edgeCount := rfl
@[simp] theorem flagCmdErr_bitCount (s : State) : (flagCmdErr s).bitCount = s.bitCount := rfl
@[simp] theorem flagCmdErr_raw (s : State) : (flagCmdErr s).raw = s.raw := rfl
@[simp] theorem flagCmdErr_hum (s : State) : (flagCmdErr s).hum = s.hum := rfl
@[simp] theorem flagCmdErr_temp (s : State) : (flagCmdErr s).temp = s.temp := rfl
@[simp] theorem flagCmdErr_timer (s : State) : (flagCmdErr s).timer = s.timer := rfl
@[simp] theorem flagCmdErr_extraDepth (s : State) : (flagCmdErr s).extraDepth = s.extraDepth := rfl
@[simp] theorem flagCmdErr_edgeEpoch (s : State) : (flagCmdErr s).edgeEpoch = s.edgeEpoch := rfl
@[simp] theorem flagCmdErr_rdata (s : State) : (flagCmdErr s).rdata = s.rdata := rfl
@[simp] theorem flagCmdErr_events (s : State) : (flagCmdErr s).events = s.events := rfl
@[simp] theorem flagCmdErr_drawn (s : State) : (flagCmdErr s).drawn = s.drawn := rfl

/-! ### `flagWrErr` -/

@[simp] theorem flagWrErr_model (s : State) : (flagWrErr s).model = s.model := rfl
@[simp] theorem flagWrErr_csumMode (s : State) : (flagWrErr s).csumMode = s.csumMode := rfl
@[simp] theorem flagWrErr_ie (s : State) : (flagWrErr s).ie = s.ie := rfl
@[simp] theorem flagWrErr_startLow (s : State) : (flagWrErr s).startLow = s.startLow := rfl
@[simp] theorem flagWrErr_release (s : State) : (flagWrErr s).release = s.release := rfl
@[simp] theorem flagWrErr_window (s : State) : (flagWrErr s).window = s.window := rfl
@[simp] theorem flagWrErr_thresh (s : State) : (flagWrErr s).thresh = s.thresh := rfl
@[simp] theorem flagWrErr_done (s : State) : (flagWrErr s).done = s.done := rfl
@[simp] theorem flagWrErr_cmdErr (s : State) : (flagWrErr s).cmdErr = s.cmdErr := rfl
@[simp] theorem flagWrErr_wrErr (s : State) : (flagWrErr s).wrErr = true := rfl
@[simp] theorem flagWrErr_rdErr (s : State) : (flagWrErr s).rdErr = s.rdErr := rfl
@[simp] theorem flagWrErr_ovf (s : State) : (flagWrErr s).ovf = s.ovf := rfl
@[simp] theorem flagWrErr_result (s : State) : (flagWrErr s).result = s.result := rfl
@[simp] theorem flagWrErr_phase (s : State) : (flagWrErr s).phase = s.phase := rfl
@[simp] theorem flagWrErr_cnt (s : State) : (flagWrErr s).cnt = s.cnt := rfl
@[simp] theorem flagWrErr_prev (s : State) : (flagWrErr s).prev = s.prev := rfl
@[simp] theorem flagWrErr_line (s : State) : (flagWrErr s).line = s.line := rfl
@[simp] theorem flagWrErr_oe (s : State) : (flagWrErr s).oe = s.oe := rfl
@[simp] theorem flagWrErr_out (s : State) : (flagWrErr s).out = s.out := rfl
@[simp] theorem flagWrErr_edge (s : State) : (flagWrErr s).edge = s.edge := rfl
@[simp] theorem flagWrErr_fill (s : State) : (flagWrErr s).fill = s.fill := rfl
@[simp] theorem flagWrErr_rptr (s : State) : (flagWrErr s).rptr = s.rptr := rfl
@[simp] theorem flagWrErr_edgeCount (s : State) : (flagWrErr s).edgeCount = s.edgeCount := rfl
@[simp] theorem flagWrErr_bitCount (s : State) : (flagWrErr s).bitCount = s.bitCount := rfl
@[simp] theorem flagWrErr_raw (s : State) : (flagWrErr s).raw = s.raw := rfl
@[simp] theorem flagWrErr_hum (s : State) : (flagWrErr s).hum = s.hum := rfl
@[simp] theorem flagWrErr_temp (s : State) : (flagWrErr s).temp = s.temp := rfl
@[simp] theorem flagWrErr_timer (s : State) : (flagWrErr s).timer = s.timer := rfl
@[simp] theorem flagWrErr_extraDepth (s : State) : (flagWrErr s).extraDepth = s.extraDepth := rfl
@[simp] theorem flagWrErr_edgeEpoch (s : State) : (flagWrErr s).edgeEpoch = s.edgeEpoch := rfl
@[simp] theorem flagWrErr_rdata (s : State) : (flagWrErr s).rdata = s.rdata := rfl
@[simp] theorem flagWrErr_events (s : State) : (flagWrErr s).events = s.events := rfl
@[simp] theorem flagWrErr_drawn (s : State) : (flagWrErr s).drawn = s.drawn := rfl

/-! ### `flagRdErr` -/

@[simp] theorem flagRdErr_model (s : State) : (flagRdErr s).model = s.model := rfl
@[simp] theorem flagRdErr_csumMode (s : State) : (flagRdErr s).csumMode = s.csumMode := rfl
@[simp] theorem flagRdErr_ie (s : State) : (flagRdErr s).ie = s.ie := rfl
@[simp] theorem flagRdErr_startLow (s : State) : (flagRdErr s).startLow = s.startLow := rfl
@[simp] theorem flagRdErr_release (s : State) : (flagRdErr s).release = s.release := rfl
@[simp] theorem flagRdErr_window (s : State) : (flagRdErr s).window = s.window := rfl
@[simp] theorem flagRdErr_thresh (s : State) : (flagRdErr s).thresh = s.thresh := rfl
@[simp] theorem flagRdErr_done (s : State) : (flagRdErr s).done = s.done := rfl
@[simp] theorem flagRdErr_cmdErr (s : State) : (flagRdErr s).cmdErr = s.cmdErr := rfl
@[simp] theorem flagRdErr_wrErr (s : State) : (flagRdErr s).wrErr = s.wrErr := rfl
@[simp] theorem flagRdErr_rdErr (s : State) : (flagRdErr s).rdErr = true := rfl
@[simp] theorem flagRdErr_ovf (s : State) : (flagRdErr s).ovf = s.ovf := rfl
@[simp] theorem flagRdErr_result (s : State) : (flagRdErr s).result = s.result := rfl
@[simp] theorem flagRdErr_phase (s : State) : (flagRdErr s).phase = s.phase := rfl
@[simp] theorem flagRdErr_cnt (s : State) : (flagRdErr s).cnt = s.cnt := rfl
@[simp] theorem flagRdErr_prev (s : State) : (flagRdErr s).prev = s.prev := rfl
@[simp] theorem flagRdErr_line (s : State) : (flagRdErr s).line = s.line := rfl
@[simp] theorem flagRdErr_oe (s : State) : (flagRdErr s).oe = s.oe := rfl
@[simp] theorem flagRdErr_out (s : State) : (flagRdErr s).out = s.out := rfl
@[simp] theorem flagRdErr_edge (s : State) : (flagRdErr s).edge = s.edge := rfl
@[simp] theorem flagRdErr_fill (s : State) : (flagRdErr s).fill = s.fill := rfl
@[simp] theorem flagRdErr_rptr (s : State) : (flagRdErr s).rptr = s.rptr := rfl
@[simp] theorem flagRdErr_edgeCount (s : State) : (flagRdErr s).edgeCount = s.edgeCount := rfl
@[simp] theorem flagRdErr_bitCount (s : State) : (flagRdErr s).bitCount = s.bitCount := rfl
@[simp] theorem flagRdErr_raw (s : State) : (flagRdErr s).raw = s.raw := rfl
@[simp] theorem flagRdErr_hum (s : State) : (flagRdErr s).hum = s.hum := rfl
@[simp] theorem flagRdErr_temp (s : State) : (flagRdErr s).temp = s.temp := rfl
@[simp] theorem flagRdErr_timer (s : State) : (flagRdErr s).timer = s.timer := rfl
@[simp] theorem flagRdErr_extraDepth (s : State) : (flagRdErr s).extraDepth = s.extraDepth := rfl
@[simp] theorem flagRdErr_edgeEpoch (s : State) : (flagRdErr s).edgeEpoch = s.edgeEpoch := rfl
@[simp] theorem flagRdErr_rdata (s : State) : (flagRdErr s).rdata = s.rdata := rfl
@[simp] theorem flagRdErr_events (s : State) : (flagRdErr s).events = s.events := rfl
@[simp] theorem flagRdErr_drawn (s : State) : (flagRdErr s).drawn = s.drawn := rfl

/-! ### `setDone` -/

@[simp] theorem setDone_model (s : State) : (setDone s).model = s.model := rfl
@[simp] theorem setDone_csumMode (s : State) : (setDone s).csumMode = s.csumMode := rfl
@[simp] theorem setDone_ie (s : State) : (setDone s).ie = s.ie := rfl
@[simp] theorem setDone_startLow (s : State) : (setDone s).startLow = s.startLow := rfl
@[simp] theorem setDone_release (s : State) : (setDone s).release = s.release := rfl
@[simp] theorem setDone_window (s : State) : (setDone s).window = s.window := rfl
@[simp] theorem setDone_thresh (s : State) : (setDone s).thresh = s.thresh := rfl
@[simp] theorem setDone_done (s : State) : (setDone s).done = true := rfl
@[simp] theorem setDone_cmdErr (s : State) : (setDone s).cmdErr = s.cmdErr := rfl
@[simp] theorem setDone_wrErr (s : State) : (setDone s).wrErr = s.wrErr := rfl
@[simp] theorem setDone_rdErr (s : State) : (setDone s).rdErr = s.rdErr := rfl
@[simp] theorem setDone_ovf (s : State) : (setDone s).ovf = s.ovf := rfl
@[simp] theorem setDone_result (s : State) : (setDone s).result = s.result := rfl
@[simp] theorem setDone_phase (s : State) : (setDone s).phase = s.phase := rfl
@[simp] theorem setDone_cnt (s : State) : (setDone s).cnt = s.cnt := rfl
@[simp] theorem setDone_prev (s : State) : (setDone s).prev = s.prev := rfl
@[simp] theorem setDone_line (s : State) : (setDone s).line = s.line := rfl
@[simp] theorem setDone_oe (s : State) : (setDone s).oe = s.oe := rfl
@[simp] theorem setDone_out (s : State) : (setDone s).out = s.out := rfl
@[simp] theorem setDone_edge (s : State) : (setDone s).edge = s.edge := rfl
@[simp] theorem setDone_fill (s : State) : (setDone s).fill = s.fill := rfl
@[simp] theorem setDone_rptr (s : State) : (setDone s).rptr = s.rptr := rfl
@[simp] theorem setDone_edgeCount (s : State) : (setDone s).edgeCount = s.edgeCount := rfl
@[simp] theorem setDone_bitCount (s : State) : (setDone s).bitCount = s.bitCount := rfl
@[simp] theorem setDone_raw (s : State) : (setDone s).raw = s.raw := rfl
@[simp] theorem setDone_hum (s : State) : (setDone s).hum = s.hum := rfl
@[simp] theorem setDone_temp (s : State) : (setDone s).temp = s.temp := rfl
@[simp] theorem setDone_timer (s : State) : (setDone s).timer = s.timer := rfl
@[simp] theorem setDone_extraDepth (s : State) : (setDone s).extraDepth = s.extraDepth := rfl
@[simp] theorem setDone_edgeEpoch (s : State) : (setDone s).edgeEpoch = s.edgeEpoch := rfl
@[simp] theorem setDone_rdata (s : State) : (setDone s).rdata = s.rdata := rfl
@[simp] theorem setDone_events (s : State) : (setDone s).events = s.events := rfl
@[simp] theorem setDone_drawn (s : State) : (setDone s).drawn = s.drawn := rfl

/-! ### `clearDone` -/

@[simp] theorem clearDone_model (s : State) : (clearDone s).model = s.model := rfl
@[simp] theorem clearDone_csumMode (s : State) : (clearDone s).csumMode = s.csumMode := rfl
@[simp] theorem clearDone_ie (s : State) : (clearDone s).ie = s.ie := rfl
@[simp] theorem clearDone_startLow (s : State) : (clearDone s).startLow = s.startLow := rfl
@[simp] theorem clearDone_release (s : State) : (clearDone s).release = s.release := rfl
@[simp] theorem clearDone_window (s : State) : (clearDone s).window = s.window := rfl
@[simp] theorem clearDone_thresh (s : State) : (clearDone s).thresh = s.thresh := rfl
@[simp] theorem clearDone_done (s : State) : (clearDone s).done = false := rfl
@[simp] theorem clearDone_cmdErr (s : State) : (clearDone s).cmdErr = s.cmdErr := rfl
@[simp] theorem clearDone_wrErr (s : State) : (clearDone s).wrErr = s.wrErr := rfl
@[simp] theorem clearDone_rdErr (s : State) : (clearDone s).rdErr = s.rdErr := rfl
@[simp] theorem clearDone_ovf (s : State) : (clearDone s).ovf = s.ovf := rfl
@[simp] theorem clearDone_result (s : State) : (clearDone s).result = s.result := rfl
@[simp] theorem clearDone_phase (s : State) : (clearDone s).phase = s.phase := rfl
@[simp] theorem clearDone_cnt (s : State) : (clearDone s).cnt = s.cnt := rfl
@[simp] theorem clearDone_prev (s : State) : (clearDone s).prev = s.prev := rfl
@[simp] theorem clearDone_line (s : State) : (clearDone s).line = s.line := rfl
@[simp] theorem clearDone_oe (s : State) : (clearDone s).oe = s.oe := rfl
@[simp] theorem clearDone_out (s : State) : (clearDone s).out = s.out := rfl
@[simp] theorem clearDone_edge (s : State) : (clearDone s).edge = s.edge := rfl
@[simp] theorem clearDone_fill (s : State) : (clearDone s).fill = s.fill := rfl
@[simp] theorem clearDone_rptr (s : State) : (clearDone s).rptr = s.rptr := rfl
@[simp] theorem clearDone_edgeCount (s : State) : (clearDone s).edgeCount = s.edgeCount := rfl
@[simp] theorem clearDone_bitCount (s : State) : (clearDone s).bitCount = s.bitCount := rfl
@[simp] theorem clearDone_raw (s : State) : (clearDone s).raw = s.raw := rfl
@[simp] theorem clearDone_hum (s : State) : (clearDone s).hum = s.hum := rfl
@[simp] theorem clearDone_temp (s : State) : (clearDone s).temp = s.temp := rfl
@[simp] theorem clearDone_timer (s : State) : (clearDone s).timer = s.timer := rfl
@[simp] theorem clearDone_extraDepth (s : State) : (clearDone s).extraDepth = s.extraDepth := rfl
@[simp] theorem clearDone_edgeEpoch (s : State) : (clearDone s).edgeEpoch = s.edgeEpoch := rfl
@[simp] theorem clearDone_rdata (s : State) : (clearDone s).rdata = s.rdata := rfl
@[simp] theorem clearDone_events (s : State) : (clearDone s).events = s.events := rfl
@[simp] theorem clearDone_drawn (s : State) : (clearDone s).drawn = s.drawn := rfl

/-! ### `clearFlags` -/

@[simp] theorem clearFlags_model (w : Word) (s : State) : (clearFlags w s).model = s.model := rfl
@[simp] theorem clearFlags_csumMode (w : Word) (s : State) : (clearFlags w s).csumMode = s.csumMode := rfl
@[simp] theorem clearFlags_ie (w : Word) (s : State) : (clearFlags w s).ie = s.ie := rfl
@[simp] theorem clearFlags_startLow (w : Word) (s : State) : (clearFlags w s).startLow = s.startLow := rfl
@[simp] theorem clearFlags_release (w : Word) (s : State) : (clearFlags w s).release = s.release := rfl
@[simp] theorem clearFlags_window (w : Word) (s : State) : (clearFlags w s).window = s.window := rfl
@[simp] theorem clearFlags_thresh (w : Word) (s : State) : (clearFlags w s).thresh = s.thresh := rfl
@[simp] theorem clearFlags_done (w : Word) (s : State) : (clearFlags w s).done = w1c (w.getLsbD 1) s.done := rfl
@[simp] theorem clearFlags_cmdErr (w : Word) (s : State) : (clearFlags w s).cmdErr = w1c (w.getLsbD 3) s.cmdErr := rfl
@[simp] theorem clearFlags_wrErr (w : Word) (s : State) : (clearFlags w s).wrErr = w1c (w.getLsbD 4) s.wrErr := rfl
@[simp] theorem clearFlags_rdErr (w : Word) (s : State) : (clearFlags w s).rdErr = w1c (w.getLsbD 5) s.rdErr := rfl
@[simp] theorem clearFlags_ovf (w : Word) (s : State) : (clearFlags w s).ovf = w1c (w.getLsbD 6) s.ovf := rfl
@[simp] theorem clearFlags_result (w : Word) (s : State) : (clearFlags w s).result = s.result := rfl
@[simp] theorem clearFlags_phase (w : Word) (s : State) : (clearFlags w s).phase = s.phase := rfl
@[simp] theorem clearFlags_cnt (w : Word) (s : State) : (clearFlags w s).cnt = s.cnt := rfl
@[simp] theorem clearFlags_prev (w : Word) (s : State) : (clearFlags w s).prev = s.prev := rfl
@[simp] theorem clearFlags_line (w : Word) (s : State) : (clearFlags w s).line = s.line := rfl
@[simp] theorem clearFlags_oe (w : Word) (s : State) : (clearFlags w s).oe = s.oe := rfl
@[simp] theorem clearFlags_out (w : Word) (s : State) : (clearFlags w s).out = s.out := rfl
@[simp] theorem clearFlags_edge (w : Word) (s : State) : (clearFlags w s).edge = s.edge := rfl
@[simp] theorem clearFlags_fill (w : Word) (s : State) : (clearFlags w s).fill = s.fill := rfl
@[simp] theorem clearFlags_rptr (w : Word) (s : State) : (clearFlags w s).rptr = s.rptr := rfl
@[simp] theorem clearFlags_edgeCount (w : Word) (s : State) : (clearFlags w s).edgeCount = s.edgeCount := rfl
@[simp] theorem clearFlags_bitCount (w : Word) (s : State) : (clearFlags w s).bitCount = s.bitCount := rfl
@[simp] theorem clearFlags_raw (w : Word) (s : State) : (clearFlags w s).raw = s.raw := rfl
@[simp] theorem clearFlags_hum (w : Word) (s : State) : (clearFlags w s).hum = s.hum := rfl
@[simp] theorem clearFlags_temp (w : Word) (s : State) : (clearFlags w s).temp = s.temp := rfl
@[simp] theorem clearFlags_timer (w : Word) (s : State) : (clearFlags w s).timer = s.timer := rfl
@[simp] theorem clearFlags_extraDepth (w : Word) (s : State) : (clearFlags w s).extraDepth = s.extraDepth := rfl
@[simp] theorem clearFlags_edgeEpoch (w : Word) (s : State) : (clearFlags w s).edgeEpoch = s.edgeEpoch := rfl
@[simp] theorem clearFlags_rdata (w : Word) (s : State) : (clearFlags w s).rdata = s.rdata := rfl
@[simp] theorem clearFlags_events (w : Word) (s : State) : (clearFlags w s).events = s.events := rfl
@[simp] theorem clearFlags_drawn (w : Word) (s : State) : (clearFlags w s).drawn = s.drawn := rfl

/-! ### `recordEdge` -/

@[simp] theorem recordEdge_model (t : Half) (s : State) : (recordEdge t s).model = s.model := rfl
@[simp] theorem recordEdge_csumMode (t : Half) (s : State) : (recordEdge t s).csumMode = s.csumMode := rfl
@[simp] theorem recordEdge_ie (t : Half) (s : State) : (recordEdge t s).ie = s.ie := rfl
@[simp] theorem recordEdge_startLow (t : Half) (s : State) : (recordEdge t s).startLow = s.startLow := rfl
@[simp] theorem recordEdge_release (t : Half) (s : State) : (recordEdge t s).release = s.release := rfl
@[simp] theorem recordEdge_window (t : Half) (s : State) : (recordEdge t s).window = s.window := rfl
@[simp] theorem recordEdge_thresh (t : Half) (s : State) : (recordEdge t s).thresh = s.thresh := rfl
@[simp] theorem recordEdge_done (t : Half) (s : State) : (recordEdge t s).done = s.done := rfl
@[simp] theorem recordEdge_cmdErr (t : Half) (s : State) : (recordEdge t s).cmdErr = s.cmdErr := rfl
@[simp] theorem recordEdge_wrErr (t : Half) (s : State) : (recordEdge t s).wrErr = s.wrErr := rfl
@[simp] theorem recordEdge_rdErr (t : Half) (s : State) : (recordEdge t s).rdErr = s.rdErr := rfl
@[simp] theorem recordEdge_ovf (t : Half) (s : State) : (recordEdge t s).ovf = if s.fill < s.fifoDepth then s.ovf else true := rfl
@[simp] theorem recordEdge_result (t : Half) (s : State) : (recordEdge t s).result = s.result := rfl
@[simp] theorem recordEdge_phase (t : Half) (s : State) : (recordEdge t s).phase = s.phase := rfl
@[simp] theorem recordEdge_cnt (t : Half) (s : State) : (recordEdge t s).cnt = s.cnt := rfl
@[simp] theorem recordEdge_prev (t : Half) (s : State) : (recordEdge t s).prev = s.prev := rfl
@[simp] theorem recordEdge_line (t : Half) (s : State) : (recordEdge t s).line = s.line := rfl
@[simp] theorem recordEdge_oe (t : Half) (s : State) : (recordEdge t s).oe = s.oe := rfl
@[simp] theorem recordEdge_out (t : Half) (s : State) : (recordEdge t s).out = s.out := rfl
@[simp] theorem recordEdge_edge (t : Half) (s : State) : (recordEdge t s).edge = if s.fill < s.fifoDepth then edgeInsert s.fill t s.edge else s.edge := rfl
@[simp] theorem recordEdge_fill (t : Half) (s : State) : (recordEdge t s).fill = if s.fill < s.fifoDepth then s.fill + 1 else s.fill := rfl
@[simp] theorem recordEdge_rptr (t : Half) (s : State) : (recordEdge t s).rptr = s.rptr := rfl
@[simp] theorem recordEdge_edgeCount (t : Half) (s : State) : (recordEdge t s).edgeCount = if s.edgeCount.toNat < Config.maxEdgeCount then s.edgeCount + 1 else s.edgeCount := rfl
@[simp] theorem recordEdge_bitCount (t : Half) (s : State) : (recordEdge t s).bitCount = s.bitCount := rfl
@[simp] theorem recordEdge_raw (t : Half) (s : State) : (recordEdge t s).raw = s.raw := rfl
@[simp] theorem recordEdge_hum (t : Half) (s : State) : (recordEdge t s).hum = s.hum := rfl
@[simp] theorem recordEdge_temp (t : Half) (s : State) : (recordEdge t s).temp = s.temp := rfl
@[simp] theorem recordEdge_timer (t : Half) (s : State) : (recordEdge t s).timer = s.timer := rfl
@[simp] theorem recordEdge_extraDepth (t : Half) (s : State) : (recordEdge t s).extraDepth = s.extraDepth := rfl
@[simp] theorem recordEdge_edgeEpoch (t : Half) (s : State) : (recordEdge t s).edgeEpoch = s.edgeEpoch := rfl
@[simp] theorem recordEdge_rdata (t : Half) (s : State) : (recordEdge t s).rdata = s.rdata := rfl
@[simp] theorem recordEdge_events (t : Half) (s : State) : (recordEdge t s).events = s.events := rfl
@[simp] theorem recordEdge_drawn (t : Half) (s : State) : (recordEdge t s).drawn = s.drawn := rfl

/-! ### `clearData` -/

@[simp] theorem clearData_model (s : State) : (clearData s).model = s.model := rfl
@[simp] theorem clearData_csumMode (s : State) : (clearData s).csumMode = s.csumMode := rfl
@[simp] theorem clearData_ie (s : State) : (clearData s).ie = s.ie := rfl
@[simp] theorem clearData_startLow (s : State) : (clearData s).startLow = s.startLow := rfl
@[simp] theorem clearData_release (s : State) : (clearData s).release = s.release := rfl
@[simp] theorem clearData_window (s : State) : (clearData s).window = s.window := rfl
@[simp] theorem clearData_thresh (s : State) : (clearData s).thresh = s.thresh := rfl
@[simp] theorem clearData_done (s : State) : (clearData s).done = false := rfl
@[simp] theorem clearData_cmdErr (s : State) : (clearData s).cmdErr = s.cmdErr := rfl
@[simp] theorem clearData_wrErr (s : State) : (clearData s).wrErr = s.wrErr := rfl
@[simp] theorem clearData_rdErr (s : State) : (clearData s).rdErr = s.rdErr := rfl
@[simp] theorem clearData_ovf (s : State) : (clearData s).ovf = false := rfl
@[simp] theorem clearData_result (s : State) : (clearData s).result = .none := rfl
@[simp] theorem clearData_phase (s : State) : (clearData s).phase = s.phase := rfl
@[simp] theorem clearData_cnt (s : State) : (clearData s).cnt = s.cnt := rfl
@[simp] theorem clearData_prev (s : State) : (clearData s).prev = s.prev := rfl
@[simp] theorem clearData_line (s : State) : (clearData s).line = s.line := rfl
@[simp] theorem clearData_oe (s : State) : (clearData s).oe = s.oe := rfl
@[simp] theorem clearData_out (s : State) : (clearData s).out = s.out := rfl
@[simp] theorem clearData_edge (s : State) : (clearData s).edge = s.edge := rfl
@[simp] theorem clearData_fill (s : State) : (clearData s).fill = 0 := rfl
@[simp] theorem clearData_rptr (s : State) : (clearData s).rptr = 0 := rfl
@[simp] theorem clearData_edgeCount (s : State) : (clearData s).edgeCount = 0 := rfl
@[simp] theorem clearData_bitCount (s : State) : (clearData s).bitCount = 0 := rfl
@[simp] theorem clearData_raw (s : State) : (clearData s).raw = .zero := rfl
@[simp] theorem clearData_hum (s : State) : (clearData s).hum = 0 := rfl
@[simp] theorem clearData_temp (s : State) : (clearData s).temp = 0 := rfl
@[simp] theorem clearData_timer (s : State) : (clearData s).timer = s.timer := rfl
@[simp] theorem clearData_extraDepth (s : State) : (clearData s).extraDepth = s.extraDepth := rfl
@[simp] theorem clearData_edgeEpoch (s : State) : (clearData s).edgeEpoch = s.edgeEpoch := rfl
@[simp] theorem clearData_rdata (s : State) : (clearData s).rdata = s.rdata := rfl
@[simp] theorem clearData_events (s : State) : (clearData s).events = s.events := rfl
@[simp] theorem clearData_drawn (s : State) : (clearData s).drawn = s.drawn := rfl

/-! ### `acceptStart` -/

@[simp] theorem acceptStart_model (s : State) : (acceptStart s).model = s.model := rfl
@[simp] theorem acceptStart_csumMode (s : State) : (acceptStart s).csumMode = s.csumMode := rfl
@[simp] theorem acceptStart_ie (s : State) : (acceptStart s).ie = s.ie := rfl
@[simp] theorem acceptStart_startLow (s : State) : (acceptStart s).startLow = s.startLow := rfl
@[simp] theorem acceptStart_release (s : State) : (acceptStart s).release = s.release := rfl
@[simp] theorem acceptStart_window (s : State) : (acceptStart s).window = s.window := rfl
@[simp] theorem acceptStart_thresh (s : State) : (acceptStart s).thresh = s.thresh := rfl
@[simp] theorem acceptStart_done (s : State) : (acceptStart s).done = false := rfl
@[simp] theorem acceptStart_cmdErr (s : State) : (acceptStart s).cmdErr = s.cmdErr := rfl
@[simp] theorem acceptStart_wrErr (s : State) : (acceptStart s).wrErr = s.wrErr := rfl
@[simp] theorem acceptStart_rdErr (s : State) : (acceptStart s).rdErr = s.rdErr := rfl
@[simp] theorem acceptStart_ovf (s : State) : (acceptStart s).ovf = false := rfl
@[simp] theorem acceptStart_result (s : State) : (acceptStart s).result = .none := rfl
@[simp] theorem acceptStart_phase (s : State) : (acceptStart s).phase = .start := rfl
@[simp] theorem acceptStart_cnt (s : State) : (acceptStart s).cnt = 0 := rfl
@[simp] theorem acceptStart_prev (s : State) : (acceptStart s).prev = s.prev := rfl
@[simp] theorem acceptStart_line (s : State) : (acceptStart s).line = s.line := rfl
@[simp] theorem acceptStart_oe (s : State) : (acceptStart s).oe = true := rfl
@[simp] theorem acceptStart_out (s : State) : (acceptStart s).out = false := rfl
@[simp] theorem acceptStart_edge (s : State) : (acceptStart s).edge = s.edge := rfl
@[simp] theorem acceptStart_fill (s : State) : (acceptStart s).fill = 0 := rfl
@[simp] theorem acceptStart_rptr (s : State) : (acceptStart s).rptr = 0 := rfl
@[simp] theorem acceptStart_edgeCount (s : State) : (acceptStart s).edgeCount = 0 := rfl
@[simp] theorem acceptStart_bitCount (s : State) : (acceptStart s).bitCount = 0 := rfl
@[simp] theorem acceptStart_raw (s : State) : (acceptStart s).raw = .zero := rfl
@[simp] theorem acceptStart_hum (s : State) : (acceptStart s).hum = 0 := rfl
@[simp] theorem acceptStart_temp (s : State) : (acceptStart s).temp = 0 := rfl
@[simp] theorem acceptStart_timer (s : State) : (acceptStart s).timer = s.timer := rfl
@[simp] theorem acceptStart_extraDepth (s : State) : (acceptStart s).extraDepth = s.extraDepth := rfl
@[simp] theorem acceptStart_edgeEpoch (s : State) : (acceptStart s).edgeEpoch = s.edgeEpoch := rfl
@[simp] theorem acceptStart_rdata (s : State) : (acceptStart s).rdata = s.rdata := rfl
@[simp] theorem acceptStart_events (s : State) : (acceptStart s).events = s.events := rfl
@[simp] theorem acceptStart_drawn (s : State) : (acceptStart s).drawn = s.drawn := rfl

/-! ### `popEdge` -/

@[simp] theorem popEdge_model (s : State) : (popEdge s).model = s.model := rfl
@[simp] theorem popEdge_csumMode (s : State) : (popEdge s).csumMode = s.csumMode := rfl
@[simp] theorem popEdge_ie (s : State) : (popEdge s).ie = s.ie := rfl
@[simp] theorem popEdge_startLow (s : State) : (popEdge s).startLow = s.startLow := rfl
@[simp] theorem popEdge_release (s : State) : (popEdge s).release = s.release := rfl
@[simp] theorem popEdge_window (s : State) : (popEdge s).window = s.window := rfl
@[simp] theorem popEdge_thresh (s : State) : (popEdge s).thresh = s.thresh := rfl
@[simp] theorem popEdge_done (s : State) : (popEdge s).done = s.done := rfl
@[simp] theorem popEdge_cmdErr (s : State) : (popEdge s).cmdErr = s.cmdErr := rfl
@[simp] theorem popEdge_wrErr (s : State) : (popEdge s).wrErr = s.wrErr := rfl
@[simp] theorem popEdge_rdErr (s : State) : (popEdge s).rdErr = s.rdErr := rfl
@[simp] theorem popEdge_ovf (s : State) : (popEdge s).ovf = s.ovf := rfl
@[simp] theorem popEdge_result (s : State) : (popEdge s).result = s.result := rfl
@[simp] theorem popEdge_phase (s : State) : (popEdge s).phase = s.phase := rfl
@[simp] theorem popEdge_cnt (s : State) : (popEdge s).cnt = s.cnt := rfl
@[simp] theorem popEdge_prev (s : State) : (popEdge s).prev = s.prev := rfl
@[simp] theorem popEdge_line (s : State) : (popEdge s).line = s.line := rfl
@[simp] theorem popEdge_oe (s : State) : (popEdge s).oe = s.oe := rfl
@[simp] theorem popEdge_out (s : State) : (popEdge s).out = s.out := rfl
@[simp] theorem popEdge_edge (s : State) : (popEdge s).edge = s.edge := rfl
@[simp] theorem popEdge_fill (s : State) : (popEdge s).fill = s.fill := rfl
@[simp] theorem popEdge_rptr (s : State) : (popEdge s).rptr = s.rptr + 1 := rfl
@[simp] theorem popEdge_edgeCount (s : State) : (popEdge s).edgeCount = s.edgeCount := rfl
@[simp] theorem popEdge_bitCount (s : State) : (popEdge s).bitCount = s.bitCount := rfl
@[simp] theorem popEdge_raw (s : State) : (popEdge s).raw = s.raw := rfl
@[simp] theorem popEdge_hum (s : State) : (popEdge s).hum = s.hum := rfl
@[simp] theorem popEdge_temp (s : State) : (popEdge s).temp = s.temp := rfl
@[simp] theorem popEdge_timer (s : State) : (popEdge s).timer = s.timer := rfl
@[simp] theorem popEdge_extraDepth (s : State) : (popEdge s).extraDepth = s.extraDepth := rfl
@[simp] theorem popEdge_edgeEpoch (s : State) : (popEdge s).edgeEpoch = s.edgeEpoch := rfl
@[simp] theorem popEdge_rdata (s : State) : (popEdge s).rdata = some (zext (s.edgeAt s.rptr)) := rfl
@[simp] theorem popEdge_events (s : State) : (popEdge s).events = s.events := rfl
@[simp] theorem popEdge_drawn (s : State) : (popEdge s).drawn = s.drawn := rfl

/-! ### `checkInterpret` -/

@[simp] theorem checkInterpret_model (s : State) : (checkInterpret s).model = s.model := rfl
@[simp] theorem checkInterpret_csumMode (s : State) : (checkInterpret s).csumMode = s.csumMode := rfl
@[simp] theorem checkInterpret_ie (s : State) : (checkInterpret s).ie = s.ie := rfl
@[simp] theorem checkInterpret_startLow (s : State) : (checkInterpret s).startLow = s.startLow := rfl
@[simp] theorem checkInterpret_release (s : State) : (checkInterpret s).release = s.release := rfl
@[simp] theorem checkInterpret_window (s : State) : (checkInterpret s).window = s.window := rfl
@[simp] theorem checkInterpret_thresh (s : State) : (checkInterpret s).thresh = s.thresh := rfl
@[simp] theorem checkInterpret_done (s : State) : (checkInterpret s).done = s.done := rfl
@[simp] theorem checkInterpret_cmdErr (s : State) : (checkInterpret s).cmdErr = s.cmdErr := rfl
@[simp] theorem checkInterpret_wrErr (s : State) : (checkInterpret s).wrErr = s.wrErr := rfl
@[simp] theorem checkInterpret_rdErr (s : State) : (checkInterpret s).rdErr = s.rdErr := rfl
@[simp] theorem checkInterpret_ovf (s : State) : (checkInterpret s).ovf = s.ovf := rfl
@[simp] theorem checkInterpret_result (s : State) : (checkInterpret s).result = if csumOk s.csumMode s.raw then .success else .checksumMismatch := rfl
@[simp] theorem checkInterpret_phase (s : State) : (checkInterpret s).phase = s.phase := rfl
@[simp] theorem checkInterpret_cnt (s : State) : (checkInterpret s).cnt = s.cnt := rfl
@[simp] theorem checkInterpret_prev (s : State) : (checkInterpret s).prev = s.prev := rfl
@[simp] theorem checkInterpret_line (s : State) : (checkInterpret s).line = s.line := rfl
@[simp] theorem checkInterpret_oe (s : State) : (checkInterpret s).oe = s.oe := rfl
@[simp] theorem checkInterpret_out (s : State) : (checkInterpret s).out = s.out := rfl
@[simp] theorem checkInterpret_edge (s : State) : (checkInterpret s).edge = s.edge := rfl
@[simp] theorem checkInterpret_fill (s : State) : (checkInterpret s).fill = s.fill := rfl
@[simp] theorem checkInterpret_rptr (s : State) : (checkInterpret s).rptr = s.rptr := rfl
@[simp] theorem checkInterpret_edgeCount (s : State) : (checkInterpret s).edgeCount = s.edgeCount := rfl
@[simp] theorem checkInterpret_bitCount (s : State) : (checkInterpret s).bitCount = s.bitCount := rfl
@[simp] theorem checkInterpret_raw (s : State) : (checkInterpret s).raw = s.raw := rfl
@[simp] theorem checkInterpret_hum (s : State) : (checkInterpret s).hum = if csumOk s.csumMode s.raw then sext (humidity s.model s.raw) else 0 := rfl
@[simp] theorem checkInterpret_temp (s : State) : (checkInterpret s).temp = if csumOk s.csumMode s.raw then sext (temperature s.model s.raw) else 0 := rfl
@[simp] theorem checkInterpret_timer (s : State) : (checkInterpret s).timer = s.timer := rfl
@[simp] theorem checkInterpret_extraDepth (s : State) : (checkInterpret s).extraDepth = s.extraDepth := rfl
@[simp] theorem checkInterpret_edgeEpoch (s : State) : (checkInterpret s).edgeEpoch = s.edgeEpoch := rfl
@[simp] theorem checkInterpret_rdata (s : State) : (checkInterpret s).rdata = s.rdata := rfl
@[simp] theorem checkInterpret_events (s : State) : (checkInterpret s).events = s.events := rfl
@[simp] theorem checkInterpret_drawn (s : State) : (checkInterpret s).drawn = s.drawn := rfl

/-! ### `failDecode` -/

@[simp] theorem failDecode_model (r : DecodeResult) (n : Half) (s : State) : (failDecode r n s).model = s.model := rfl
@[simp] theorem failDecode_csumMode (r : DecodeResult) (n : Half) (s : State) : (failDecode r n s).csumMode = s.csumMode := rfl
@[simp] theorem failDecode_ie (r : DecodeResult) (n : Half) (s : State) : (failDecode r n s).ie = s.ie := rfl
@[simp] theorem failDecode_startLow (r : DecodeResult) (n : Half) (s : State) : (failDecode r n s).startLow = s.startLow := rfl
@[simp] theorem failDecode_release (r : DecodeResult) (n : Half) (s : State) : (failDecode r n s).release = s.release := rfl
@[simp] theorem failDecode_window (r : DecodeResult) (n : Half) (s : State) : (failDecode r n s).window = s.window := rfl
@[simp] theorem failDecode_thresh (r : DecodeResult) (n : Half) (s : State) : (failDecode r n s).thresh = s.thresh := rfl
@[simp] theorem failDecode_done (r : DecodeResult) (n : Half) (s : State) : (failDecode r n s).done = s.done := rfl
@[simp] theorem failDecode_cmdErr (r : DecodeResult) (n : Half) (s : State) : (failDecode r n s).cmdErr = s.cmdErr := rfl
@[simp] theorem failDecode_wrErr (r : DecodeResult) (n : Half) (s : State) : (failDecode r n s).wrErr = s.wrErr := rfl
@[simp] theorem failDecode_rdErr (r : DecodeResult) (n : Half) (s : State) : (failDecode r n s).rdErr = s.rdErr := rfl
@[simp] theorem failDecode_ovf (r : DecodeResult) (n : Half) (s : State) : (failDecode r n s).ovf = s.ovf := rfl
@[simp] theorem failDecode_result (r : DecodeResult) (n : Half) (s : State) : (failDecode r n s).result = r := rfl
@[simp] theorem failDecode_phase (r : DecodeResult) (n : Half) (s : State) : (failDecode r n s).phase = s.phase := rfl
@[simp] theorem failDecode_cnt (r : DecodeResult) (n : Half) (s : State) : (failDecode r n s).cnt = s.cnt := rfl
@[simp] theorem failDecode_prev (r : DecodeResult) (n : Half) (s : State) : (failDecode r n s).prev = s.prev := rfl
@[simp] theorem failDecode_line (r : DecodeResult) (n : Half) (s : State) : (failDecode r n s).line = s.line := rfl
@[simp] theorem failDecode_oe (r : DecodeResult) (n : Half) (s : State) : (failDecode r n s).oe = s.oe := rfl
@[simp] theorem failDecode_out (r : DecodeResult) (n : Half) (s : State) : (failDecode r n s).out = s.out := rfl
@[simp] theorem failDecode_edge (r : DecodeResult) (n : Half) (s : State) : (failDecode r n s).edge = s.edge := rfl
@[simp] theorem failDecode_fill (r : DecodeResult) (n : Half) (s : State) : (failDecode r n s).fill = s.fill := rfl
@[simp] theorem failDecode_rptr (r : DecodeResult) (n : Half) (s : State) : (failDecode r n s).rptr = s.rptr := rfl
@[simp] theorem failDecode_edgeCount (r : DecodeResult) (n : Half) (s : State) : (failDecode r n s).edgeCount = s.edgeCount := rfl
@[simp] theorem failDecode_bitCount (r : DecodeResult) (n : Half) (s : State) : (failDecode r n s).bitCount = n := rfl
@[simp] theorem failDecode_raw (r : DecodeResult) (n : Half) (s : State) : (failDecode r n s).raw = .zero := rfl
@[simp] theorem failDecode_hum (r : DecodeResult) (n : Half) (s : State) : (failDecode r n s).hum = 0 := rfl
@[simp] theorem failDecode_temp (r : DecodeResult) (n : Half) (s : State) : (failDecode r n s).temp = 0 := rfl
@[simp] theorem failDecode_timer (r : DecodeResult) (n : Half) (s : State) : (failDecode r n s).timer = s.timer := rfl
@[simp] theorem failDecode_extraDepth (r : DecodeResult) (n : Half) (s : State) : (failDecode r n s).extraDepth = s.extraDepth := rfl
@[simp] theorem failDecode_edgeEpoch (r : DecodeResult) (n : Half) (s : State) : (failDecode r n s).edgeEpoch = s.edgeEpoch := rfl
@[simp] theorem failDecode_rdata (r : DecodeResult) (n : Half) (s : State) : (failDecode r n s).rdata = s.rdata := rfl
@[simp] theorem failDecode_events (r : DecodeResult) (n : Half) (s : State) : (failDecode r n s).events = s.events := rfl
@[simp] theorem failDecode_drawn (r : DecodeResult) (n : Half) (s : State) : (failDecode r n s).drawn = s.drawn := rfl

/-! ### `clockTick` -/

@[simp] theorem clockTick_model (l : Bool) (s : State) : (clockTick l s).model = s.model := rfl
@[simp] theorem clockTick_csumMode (l : Bool) (s : State) : (clockTick l s).csumMode = s.csumMode := rfl
@[simp] theorem clockTick_ie (l : Bool) (s : State) : (clockTick l s).ie = s.ie := rfl
@[simp] theorem clockTick_startLow (l : Bool) (s : State) : (clockTick l s).startLow = s.startLow := rfl
@[simp] theorem clockTick_release (l : Bool) (s : State) : (clockTick l s).release = s.release := rfl
@[simp] theorem clockTick_window (l : Bool) (s : State) : (clockTick l s).window = s.window := rfl
@[simp] theorem clockTick_thresh (l : Bool) (s : State) : (clockTick l s).thresh = s.thresh := rfl
@[simp] theorem clockTick_done (l : Bool) (s : State) : (clockTick l s).done = s.done := rfl
@[simp] theorem clockTick_cmdErr (l : Bool) (s : State) : (clockTick l s).cmdErr = s.cmdErr := rfl
@[simp] theorem clockTick_wrErr (l : Bool) (s : State) : (clockTick l s).wrErr = s.wrErr := rfl
@[simp] theorem clockTick_rdErr (l : Bool) (s : State) : (clockTick l s).rdErr = s.rdErr := rfl
@[simp] theorem clockTick_ovf (l : Bool) (s : State) : (clockTick l s).ovf = s.ovf := rfl
@[simp] theorem clockTick_result (l : Bool) (s : State) : (clockTick l s).result = s.result := rfl
@[simp] theorem clockTick_phase (l : Bool) (s : State) : (clockTick l s).phase = s.phase := rfl
@[simp] theorem clockTick_cnt (l : Bool) (s : State) : (clockTick l s).cnt = s.cnt := rfl
@[simp] theorem clockTick_prev (l : Bool) (s : State) : (clockTick l s).prev = s.prev := rfl
@[simp] theorem clockTick_line (l : Bool) (s : State) : (clockTick l s).line = l := rfl
@[simp] theorem clockTick_oe (l : Bool) (s : State) : (clockTick l s).oe = s.oe := rfl
@[simp] theorem clockTick_out (l : Bool) (s : State) : (clockTick l s).out = s.out := rfl
@[simp] theorem clockTick_edge (l : Bool) (s : State) : (clockTick l s).edge = s.edge := rfl
@[simp] theorem clockTick_fill (l : Bool) (s : State) : (clockTick l s).fill = s.fill := rfl
@[simp] theorem clockTick_rptr (l : Bool) (s : State) : (clockTick l s).rptr = s.rptr := rfl
@[simp] theorem clockTick_edgeCount (l : Bool) (s : State) : (clockTick l s).edgeCount = s.edgeCount := rfl
@[simp] theorem clockTick_bitCount (l : Bool) (s : State) : (clockTick l s).bitCount = s.bitCount := rfl
@[simp] theorem clockTick_raw (l : Bool) (s : State) : (clockTick l s).raw = s.raw := rfl
@[simp] theorem clockTick_hum (l : Bool) (s : State) : (clockTick l s).hum = s.hum := rfl
@[simp] theorem clockTick_temp (l : Bool) (s : State) : (clockTick l s).temp = s.temp := rfl
@[simp] theorem clockTick_timer (l : Bool) (s : State) : (clockTick l s).timer = s.timer + 1 := rfl
@[simp] theorem clockTick_extraDepth (l : Bool) (s : State) : (clockTick l s).extraDepth = s.extraDepth := rfl
@[simp] theorem clockTick_edgeEpoch (l : Bool) (s : State) : (clockTick l s).edgeEpoch = s.edgeEpoch := rfl
@[simp] theorem clockTick_rdata (l : Bool) (s : State) : (clockTick l s).rdata = s.rdata := rfl
@[simp] theorem clockTick_events (l : Bool) (s : State) : (clockTick l s).events = s.events := rfl
@[simp] theorem clockTick_drawn (l : Bool) (s : State) : (clockTick l s).drawn = s.drawn := rfl

/-! ### `restorePin` -/

@[simp] theorem restorePin_model (s : State) : (restorePin s).model = s.model := rfl
@[simp] theorem restorePin_csumMode (s : State) : (restorePin s).csumMode = s.csumMode := rfl
@[simp] theorem restorePin_ie (s : State) : (restorePin s).ie = s.ie := rfl
@[simp] theorem restorePin_startLow (s : State) : (restorePin s).startLow = s.startLow := rfl
@[simp] theorem restorePin_release (s : State) : (restorePin s).release = s.release := rfl
@[simp] theorem restorePin_window (s : State) : (restorePin s).window = s.window := rfl
@[simp] theorem restorePin_thresh (s : State) : (restorePin s).thresh = s.thresh := rfl
@[simp] theorem restorePin_done (s : State) : (restorePin s).done = s.done := rfl
@[simp] theorem restorePin_cmdErr (s : State) : (restorePin s).cmdErr = s.cmdErr := rfl
@[simp] theorem restorePin_wrErr (s : State) : (restorePin s).wrErr = s.wrErr := rfl
@[simp] theorem restorePin_rdErr (s : State) : (restorePin s).rdErr = s.rdErr := rfl
@[simp] theorem restorePin_ovf (s : State) : (restorePin s).ovf = s.ovf := rfl
@[simp] theorem restorePin_result (s : State) : (restorePin s).result = s.result := rfl
@[simp] theorem restorePin_phase (s : State) : (restorePin s).phase = s.phase := rfl
@[simp] theorem restorePin_cnt (s : State) : (restorePin s).cnt = s.cnt := rfl
@[simp] theorem restorePin_prev (s : State) : (restorePin s).prev = s.prev := rfl
@[simp] theorem restorePin_line (s : State) : (restorePin s).line = s.line := rfl
@[simp] theorem restorePin_oe (s : State) : (restorePin s).oe = true := rfl
@[simp] theorem restorePin_out (s : State) : (restorePin s).out = true := rfl
@[simp] theorem restorePin_edge (s : State) : (restorePin s).edge = s.edge := rfl
@[simp] theorem restorePin_fill (s : State) : (restorePin s).fill = s.fill := rfl
@[simp] theorem restorePin_rptr (s : State) : (restorePin s).rptr = s.rptr := rfl
@[simp] theorem restorePin_edgeCount (s : State) : (restorePin s).edgeCount = s.edgeCount := rfl
@[simp] theorem restorePin_bitCount (s : State) : (restorePin s).bitCount = s.bitCount := rfl
@[simp] theorem restorePin_raw (s : State) : (restorePin s).raw = s.raw := rfl
@[simp] theorem restorePin_hum (s : State) : (restorePin s).hum = s.hum := rfl
@[simp] theorem restorePin_temp (s : State) : (restorePin s).temp = s.temp := rfl
@[simp] theorem restorePin_timer (s : State) : (restorePin s).timer = s.timer := rfl
@[simp] theorem restorePin_extraDepth (s : State) : (restorePin s).extraDepth = s.extraDepth := rfl
@[simp] theorem restorePin_edgeEpoch (s : State) : (restorePin s).edgeEpoch = s.edgeEpoch := rfl
@[simp] theorem restorePin_rdata (s : State) : (restorePin s).rdata = s.rdata := rfl
@[simp] theorem restorePin_events (s : State) : (restorePin s).events = s.events := rfl
@[simp] theorem restorePin_drawn (s : State) : (restorePin s).drawn = s.drawn := rfl

/-! ### `countUp` -/

@[simp] theorem countUp_model (s : State) : (countUp s).model = s.model := rfl
@[simp] theorem countUp_csumMode (s : State) : (countUp s).csumMode = s.csumMode := rfl
@[simp] theorem countUp_ie (s : State) : (countUp s).ie = s.ie := rfl
@[simp] theorem countUp_startLow (s : State) : (countUp s).startLow = s.startLow := rfl
@[simp] theorem countUp_release (s : State) : (countUp s).release = s.release := rfl
@[simp] theorem countUp_window (s : State) : (countUp s).window = s.window := rfl
@[simp] theorem countUp_thresh (s : State) : (countUp s).thresh = s.thresh := rfl
@[simp] theorem countUp_done (s : State) : (countUp s).done = s.done := rfl
@[simp] theorem countUp_cmdErr (s : State) : (countUp s).cmdErr = s.cmdErr := rfl
@[simp] theorem countUp_wrErr (s : State) : (countUp s).wrErr = s.wrErr := rfl
@[simp] theorem countUp_rdErr (s : State) : (countUp s).rdErr = s.rdErr := rfl
@[simp] theorem countUp_ovf (s : State) : (countUp s).ovf = s.ovf := rfl
@[simp] theorem countUp_result (s : State) : (countUp s).result = s.result := rfl
@[simp] theorem countUp_phase (s : State) : (countUp s).phase = s.phase := rfl
@[simp] theorem countUp_cnt (s : State) : (countUp s).cnt = BitVec.ofNat 16 (nextCount s) := rfl
@[simp] theorem countUp_prev (s : State) : (countUp s).prev = s.prev := rfl
@[simp] theorem countUp_line (s : State) : (countUp s).line = s.line := rfl
@[simp] theorem countUp_oe (s : State) : (countUp s).oe = s.oe := rfl
@[simp] theorem countUp_out (s : State) : (countUp s).out = s.out := rfl
@[simp] theorem countUp_edge (s : State) : (countUp s).edge = s.edge := rfl
@[simp] theorem countUp_fill (s : State) : (countUp s).fill = s.fill := rfl
@[simp] theorem countUp_rptr (s : State) : (countUp s).rptr = s.rptr := rfl
@[simp] theorem countUp_edgeCount (s : State) : (countUp s).edgeCount = s.edgeCount := rfl
@[simp] theorem countUp_bitCount (s : State) : (countUp s).bitCount = s.bitCount := rfl
@[simp] theorem countUp_raw (s : State) : (countUp s).raw = s.raw := rfl
@[simp] theorem countUp_hum (s : State) : (countUp s).hum = s.hum := rfl
@[simp] theorem countUp_temp (s : State) : (countUp s).temp = s.temp := rfl
@[simp] theorem countUp_timer (s : State) : (countUp s).timer = s.timer := rfl
@[simp] theorem countUp_extraDepth (s : State) : (countUp s).extraDepth = s.extraDepth := rfl
@[simp] theorem countUp_edgeEpoch (s : State) : (countUp s).edgeEpoch = s.edgeEpoch := rfl
@[simp] theorem countUp_rdata (s : State) : (countUp s).rdata = s.rdata := rfl
@[simp] theorem countUp_events (s : State) : (countUp s).events = s.events := rfl
@[simp] theorem countUp_drawn (s : State) : (countUp s).drawn = s.drawn := rfl

/-! ### `enterCapture` -/

@[simp] theorem enterCapture_model (s : State) : (enterCapture s).model = s.model := rfl
@[simp] theorem enterCapture_csumMode (s : State) : (enterCapture s).csumMode = s.csumMode := rfl
@[simp] theorem enterCapture_ie (s : State) : (enterCapture s).ie = s.ie := rfl
@[simp] theorem enterCapture_startLow (s : State) : (enterCapture s).startLow = s.startLow := rfl
@[simp] theorem enterCapture_release (s : State) : (enterCapture s).release = s.release := rfl
@[simp] theorem enterCapture_window (s : State) : (enterCapture s).window = s.window := rfl
@[simp] theorem enterCapture_thresh (s : State) : (enterCapture s).thresh = s.thresh := rfl
@[simp] theorem enterCapture_done (s : State) : (enterCapture s).done = s.done := rfl
@[simp] theorem enterCapture_cmdErr (s : State) : (enterCapture s).cmdErr = s.cmdErr := rfl
@[simp] theorem enterCapture_wrErr (s : State) : (enterCapture s).wrErr = s.wrErr := rfl
@[simp] theorem enterCapture_rdErr (s : State) : (enterCapture s).rdErr = s.rdErr := rfl
@[simp] theorem enterCapture_ovf (s : State) : (enterCapture s).ovf = s.ovf := rfl
@[simp] theorem enterCapture_result (s : State) : (enterCapture s).result = s.result := rfl
@[simp] theorem enterCapture_phase (s : State) : (enterCapture s).phase = if s.window.toNat = 0 then .restore else .capture := rfl
@[simp] theorem enterCapture_cnt (s : State) : (enterCapture s).cnt = 0 := rfl
@[simp] theorem enterCapture_prev (s : State) : (enterCapture s).prev = true := rfl
@[simp] theorem enterCapture_line (s : State) : (enterCapture s).line = s.line := rfl
@[simp] theorem enterCapture_oe (s : State) : (enterCapture s).oe = false := rfl
@[simp] theorem enterCapture_out (s : State) : (enterCapture s).out = s.out := rfl
@[simp] theorem enterCapture_edge (s : State) : (enterCapture s).edge = s.edge := rfl
@[simp] theorem enterCapture_fill (s : State) : (enterCapture s).fill = s.fill := rfl
@[simp] theorem enterCapture_rptr (s : State) : (enterCapture s).rptr = s.rptr := rfl
@[simp] theorem enterCapture_edgeCount (s : State) : (enterCapture s).edgeCount = s.edgeCount := rfl
@[simp] theorem enterCapture_bitCount (s : State) : (enterCapture s).bitCount = s.bitCount := rfl
@[simp] theorem enterCapture_raw (s : State) : (enterCapture s).raw = s.raw := rfl
@[simp] theorem enterCapture_hum (s : State) : (enterCapture s).hum = s.hum := rfl
@[simp] theorem enterCapture_temp (s : State) : (enterCapture s).temp = s.temp := rfl
@[simp] theorem enterCapture_timer (s : State) : (enterCapture s).timer = s.timer := rfl
@[simp] theorem enterCapture_extraDepth (s : State) : (enterCapture s).extraDepth = s.extraDepth := rfl
@[simp] theorem enterCapture_edgeEpoch (s : State) : (enterCapture s).edgeEpoch = s.edgeEpoch := rfl
@[simp] theorem enterCapture_rdata (s : State) : (enterCapture s).rdata = s.rdata := rfl
@[simp] theorem enterCapture_events (s : State) : (enterCapture s).events = s.events := rfl
@[simp] theorem enterCapture_drawn (s : State) : (enterCapture s).drawn = s.drawn := rfl

/-! ### `endCapture` -/

@[simp] theorem endCapture_model (s : State) : (endCapture s).model = s.model := rfl
@[simp] theorem endCapture_csumMode (s : State) : (endCapture s).csumMode = s.csumMode := rfl
@[simp] theorem endCapture_ie (s : State) : (endCapture s).ie = s.ie := rfl
@[simp] theorem endCapture_startLow (s : State) : (endCapture s).startLow = s.startLow := rfl
@[simp] theorem endCapture_release (s : State) : (endCapture s).release = s.release := rfl
@[simp] theorem endCapture_window (s : State) : (endCapture s).window = s.window := rfl
@[simp] theorem endCapture_thresh (s : State) : (endCapture s).thresh = s.thresh := rfl
@[simp] theorem endCapture_done (s : State) : (endCapture s).done = s.done := rfl
@[simp] theorem endCapture_cmdErr (s : State) : (endCapture s).cmdErr = s.cmdErr := rfl
@[simp] theorem endCapture_wrErr (s : State) : (endCapture s).wrErr = s.wrErr := rfl
@[simp] theorem endCapture_rdErr (s : State) : (endCapture s).rdErr = s.rdErr := rfl
@[simp] theorem endCapture_ovf (s : State) : (endCapture s).ovf = s.ovf := rfl
@[simp] theorem endCapture_result (s : State) : (endCapture s).result = s.result := rfl
@[simp] theorem endCapture_phase (s : State) : (endCapture s).phase = .restore := rfl
@[simp] theorem endCapture_cnt (s : State) : (endCapture s).cnt = 0 := rfl
@[simp] theorem endCapture_prev (s : State) : (endCapture s).prev = s.prev := rfl
@[simp] theorem endCapture_line (s : State) : (endCapture s).line = s.line := rfl
@[simp] theorem endCapture_oe (s : State) : (endCapture s).oe = s.oe := rfl
@[simp] theorem endCapture_out (s : State) : (endCapture s).out = s.out := rfl
@[simp] theorem endCapture_edge (s : State) : (endCapture s).edge = s.edge := rfl
@[simp] theorem endCapture_fill (s : State) : (endCapture s).fill = s.fill := rfl
@[simp] theorem endCapture_rptr (s : State) : (endCapture s).rptr = s.rptr := rfl
@[simp] theorem endCapture_edgeCount (s : State) : (endCapture s).edgeCount = s.edgeCount := rfl
@[simp] theorem endCapture_bitCount (s : State) : (endCapture s).bitCount = s.bitCount := rfl
@[simp] theorem endCapture_raw (s : State) : (endCapture s).raw = s.raw := rfl
@[simp] theorem endCapture_hum (s : State) : (endCapture s).hum = s.hum := rfl
@[simp] theorem endCapture_temp (s : State) : (endCapture s).temp = s.temp := rfl
@[simp] theorem endCapture_timer (s : State) : (endCapture s).timer = s.timer := rfl
@[simp] theorem endCapture_extraDepth (s : State) : (endCapture s).extraDepth = s.extraDepth := rfl
@[simp] theorem endCapture_edgeEpoch (s : State) : (endCapture s).edgeEpoch = s.edgeEpoch := rfl
@[simp] theorem endCapture_rdata (s : State) : (endCapture s).rdata = s.rdata := rfl
@[simp] theorem endCapture_events (s : State) : (endCapture s).events = s.events := rfl
@[simp] theorem endCapture_drawn (s : State) : (endCapture s).drawn = s.drawn := rfl

/-! ### `ignoreWrite` -/

@[simp] theorem ignoreWrite_model (s : State) : (ignoreWrite s).model = s.model := rfl
@[simp] theorem ignoreWrite_csumMode (s : State) : (ignoreWrite s).csumMode = s.csumMode := rfl
@[simp] theorem ignoreWrite_ie (s : State) : (ignoreWrite s).ie = s.ie := rfl
@[simp] theorem ignoreWrite_startLow (s : State) : (ignoreWrite s).startLow = s.startLow := rfl
@[simp] theorem ignoreWrite_release (s : State) : (ignoreWrite s).release = s.release := rfl
@[simp] theorem ignoreWrite_window (s : State) : (ignoreWrite s).window = s.window := rfl
@[simp] theorem ignoreWrite_thresh (s : State) : (ignoreWrite s).thresh = s.thresh := rfl
@[simp] theorem ignoreWrite_done (s : State) : (ignoreWrite s).done = s.done := rfl
@[simp] theorem ignoreWrite_cmdErr (s : State) : (ignoreWrite s).cmdErr = s.cmdErr := rfl
@[simp] theorem ignoreWrite_wrErr (s : State) : (ignoreWrite s).wrErr = s.wrErr := rfl
@[simp] theorem ignoreWrite_rdErr (s : State) : (ignoreWrite s).rdErr = s.rdErr := rfl
@[simp] theorem ignoreWrite_ovf (s : State) : (ignoreWrite s).ovf = s.ovf := rfl
@[simp] theorem ignoreWrite_result (s : State) : (ignoreWrite s).result = s.result := rfl
@[simp] theorem ignoreWrite_phase (s : State) : (ignoreWrite s).phase = s.phase := rfl
@[simp] theorem ignoreWrite_cnt (s : State) : (ignoreWrite s).cnt = s.cnt := rfl
@[simp] theorem ignoreWrite_prev (s : State) : (ignoreWrite s).prev = s.prev := rfl
@[simp] theorem ignoreWrite_line (s : State) : (ignoreWrite s).line = s.line := rfl
@[simp] theorem ignoreWrite_oe (s : State) : (ignoreWrite s).oe = s.oe := rfl
@[simp] theorem ignoreWrite_out (s : State) : (ignoreWrite s).out = s.out := rfl
@[simp] theorem ignoreWrite_edge (s : State) : (ignoreWrite s).edge = s.edge := rfl
@[simp] theorem ignoreWrite_fill (s : State) : (ignoreWrite s).fill = s.fill := rfl
@[simp] theorem ignoreWrite_rptr (s : State) : (ignoreWrite s).rptr = s.rptr := rfl
@[simp] theorem ignoreWrite_edgeCount (s : State) : (ignoreWrite s).edgeCount = s.edgeCount := rfl
@[simp] theorem ignoreWrite_bitCount (s : State) : (ignoreWrite s).bitCount = s.bitCount := rfl
@[simp] theorem ignoreWrite_raw (s : State) : (ignoreWrite s).raw = s.raw := rfl
@[simp] theorem ignoreWrite_hum (s : State) : (ignoreWrite s).hum = s.hum := rfl
@[simp] theorem ignoreWrite_temp (s : State) : (ignoreWrite s).temp = s.temp := rfl
@[simp] theorem ignoreWrite_timer (s : State) : (ignoreWrite s).timer = s.timer := rfl
@[simp] theorem ignoreWrite_extraDepth (s : State) : (ignoreWrite s).extraDepth = s.extraDepth := rfl
@[simp] theorem ignoreWrite_edgeEpoch (s : State) : (ignoreWrite s).edgeEpoch = s.edgeEpoch := rfl
@[simp] theorem ignoreWrite_rdata (s : State) : (ignoreWrite s).rdata = s.rdata := rfl
@[simp] theorem ignoreWrite_events (s : State) : (ignoreWrite s).events = s.events := rfl
@[simp] theorem ignoreWrite_drawn (s : State) : (ignoreWrite s).drawn = s.drawn := rfl

/-! ### `reservedCommand` -/

@[simp] theorem reservedCommand_model (s : State) : (reservedCommand s).model = s.model := rfl
@[simp] theorem reservedCommand_csumMode (s : State) : (reservedCommand s).csumMode = s.csumMode := rfl
@[simp] theorem reservedCommand_ie (s : State) : (reservedCommand s).ie = s.ie := rfl
@[simp] theorem reservedCommand_startLow (s : State) : (reservedCommand s).startLow = s.startLow := rfl
@[simp] theorem reservedCommand_release (s : State) : (reservedCommand s).release = s.release := rfl
@[simp] theorem reservedCommand_window (s : State) : (reservedCommand s).window = s.window := rfl
@[simp] theorem reservedCommand_thresh (s : State) : (reservedCommand s).thresh = s.thresh := rfl
@[simp] theorem reservedCommand_done (s : State) : (reservedCommand s).done = s.done := rfl
@[simp] theorem reservedCommand_cmdErr (s : State) : (reservedCommand s).cmdErr = true := rfl
@[simp] theorem reservedCommand_wrErr (s : State) : (reservedCommand s).wrErr = s.wrErr := rfl
@[simp] theorem reservedCommand_rdErr (s : State) : (reservedCommand s).rdErr = s.rdErr := rfl
@[simp] theorem reservedCommand_ovf (s : State) : (reservedCommand s).ovf = s.ovf := rfl
@[simp] theorem reservedCommand_result (s : State) : (reservedCommand s).result = s.result := rfl
@[simp] theorem reservedCommand_phase (s : State) : (reservedCommand s).phase = s.phase := rfl
@[simp] theorem reservedCommand_cnt (s : State) : (reservedCommand s).cnt = s.cnt := rfl
@[simp] theorem reservedCommand_prev (s : State) : (reservedCommand s).prev = s.prev := rfl
@[simp] theorem reservedCommand_line (s : State) : (reservedCommand s).line = s.line := rfl
@[simp] theorem reservedCommand_oe (s : State) : (reservedCommand s).oe = s.oe := rfl
@[simp] theorem reservedCommand_out (s : State) : (reservedCommand s).out = s.out := rfl
@[simp] theorem reservedCommand_edge (s : State) : (reservedCommand s).edge = s.edge := rfl
@[simp] theorem reservedCommand_fill (s : State) : (reservedCommand s).fill = s.fill := rfl
@[simp] theorem reservedCommand_rptr (s : State) : (reservedCommand s).rptr = s.rptr := rfl
@[simp] theorem reservedCommand_edgeCount (s : State) : (reservedCommand s).edgeCount = s.edgeCount := rfl
@[simp] theorem reservedCommand_bitCount (s : State) : (reservedCommand s).bitCount = s.bitCount := rfl
@[simp] theorem reservedCommand_raw (s : State) : (reservedCommand s).raw = s.raw := rfl
@[simp] theorem reservedCommand_hum (s : State) : (reservedCommand s).hum = s.hum := rfl
@[simp] theorem reservedCommand_temp (s : State) : (reservedCommand s).temp = s.temp := rfl
@[simp] theorem reservedCommand_timer (s : State) : (reservedCommand s).timer = s.timer := rfl
@[simp] theorem reservedCommand_extraDepth (s : State) : (reservedCommand s).extraDepth = s.extraDepth := rfl
@[simp] theorem reservedCommand_edgeEpoch (s : State) : (reservedCommand s).edgeEpoch = s.edgeEpoch := rfl
@[simp] theorem reservedCommand_rdata (s : State) : (reservedCommand s).rdata = s.rdata := rfl
@[simp] theorem reservedCommand_events (s : State) : (reservedCommand s).events = s.events := rfl
@[simp] theorem reservedCommand_drawn (s : State) : (reservedCommand s).drawn = s.drawn := rfl

/-! ### `resetBlock` -/

@[simp] theorem resetBlock_model (s : State) : (resetBlock s).model = .dht11 := rfl
@[simp] theorem resetBlock_csumMode (s : State) : (resetBlock s).csumMode = .andTest := rfl
@[simp] theorem resetBlock_ie (s : State) : (resetBlock s).ie = false := rfl
@[simp] theorem resetBlock_startLow (s : State) : (resetBlock s).startLow = 18000 := rfl
@[simp] theorem resetBlock_release (s : State) : (resetBlock s).release = 1 := rfl
@[simp] theorem resetBlock_window (s : State) : (resetBlock s).window = 6000 := rfl
@[simp] theorem resetBlock_thresh (s : State) : (resetBlock s).thresh = 100 := rfl
@[simp] theorem resetBlock_done (s : State) : (resetBlock s).done = false := rfl
@[simp] theorem resetBlock_cmdErr (s : State) : (resetBlock s).cmdErr = false := rfl
@[simp] theorem resetBlock_wrErr (s : State) : (resetBlock s).wrErr = false := rfl
@[simp] theorem resetBlock_rdErr (s : State) : (resetBlock s).rdErr = false := rfl
@[simp] theorem resetBlock_ovf (s : State) : (resetBlock s).ovf = false := rfl
@[simp] theorem resetBlock_result (s : State) : (resetBlock s).result = .none := rfl
@[simp] theorem resetBlock_phase (s : State) : (resetBlock s).phase = .idle := rfl
@[simp] theorem resetBlock_cnt (s : State) : (resetBlock s).cnt = 0 := rfl
@[simp] theorem resetBlock_prev (s : State) : (resetBlock s).prev = true := rfl
@[simp] theorem resetBlock_line (s : State) : (resetBlock s).line = true := rfl
@[simp] theorem resetBlock_oe (s : State) : (resetBlock s).oe = false := rfl
@[simp] theorem resetBlock_out (s : State) : (resetBlock s).out = true := rfl
@[simp] theorem resetBlock_edge (s : State) : (resetBlock s).edge = [] := rfl
@[simp] theorem resetBlock_fill (s : State) : (resetBlock s).fill = 0 := rfl
@[simp] theorem resetBlock_rptr (s : State) : (resetBlock s).rptr = 0 := rfl
@[simp] theorem resetBlock_edgeCount (s : State) : (resetBlock s).edgeCount = 0 := rfl
@[simp] theorem resetBlock_bitCount (s : State) : (resetBlock s).bitCount = 0 := rfl
@[simp] theorem resetBlock_raw (s : State) : (resetBlock s).raw = .zero := rfl
@[simp] theorem resetBlock_hum (s : State) : (resetBlock s).hum = 0 := rfl
@[simp] theorem resetBlock_temp (s : State) : (resetBlock s).temp = 0 := rfl
@[simp] theorem resetBlock_timer (s : State) : (resetBlock s).timer = 0 := rfl
@[simp] theorem resetBlock_extraDepth (s : State) : (resetBlock s).extraDepth = s.extraDepth := rfl
@[simp] theorem resetBlock_edgeEpoch (s : State) : (resetBlock s).edgeEpoch = s.edgeEpoch + 1 := rfl
@[simp] theorem resetBlock_rdata (s : State) : (resetBlock s).rdata = s.rdata := rfl
@[simp] theorem resetBlock_events (s : State) : (resetBlock s).events = s.events := rfl
@[simp] theorem resetBlock_drawn (s : State) : (resetBlock s).drawn = s.drawn := rfl

/-! ### `decodeTrace`: what it does not write (42_frame_decoder.md R170) -/

@[simp] theorem decodeTrace_model (s : State) : (decodeTrace s).model = s.model := by unfold decodeTrace; split_ifs <;> rfl
@[simp] theorem decodeTrace_csumMode (s : State) : (decodeTrace s).csumMode = s.csumMode := by unfold decodeTrace; split_ifs <;> rfl
@[simp] theorem decodeTrace_ie (s : State) : (decodeTrace s).ie = s.ie := by unfold decodeTrace; split_ifs <;> rfl
@[simp] theorem decodeTrace_startLow (s : State) : (decodeTrace s).startLow = s.startLow := by unfold decodeTrace; split_ifs <;> rfl
@[simp] theorem decodeTrace_release (s : State) : (decodeTrace s).release = s.release := by unfold decodeTrace; split_ifs <;> rfl
@[simp] theorem decodeTrace_window (s : State) : (decodeTrace s).window = s.window := by unfold decodeTrace; split_ifs <;> rfl
@[simp] theorem decodeTrace_thresh (s : State) : (decodeTrace s).thresh = s.thresh := by unfold decodeTrace; split_ifs <;> rfl
@[simp] theorem decodeTrace_done (s : State) : (decodeTrace s).done = s.done := by unfold decodeTrace; split_ifs <;> rfl
@[simp] theorem decodeTrace_cmdErr (s : State) : (decodeTrace s).cmdErr = s.cmdErr := by unfold decodeTrace; split_ifs <;> rfl
@[simp] theorem decodeTrace_wrErr (s : State) : (decodeTrace s).wrErr = s.wrErr := by unfold decodeTrace; split_ifs <;> rfl
@[simp] theorem decodeTrace_rdErr (s : State) : (decodeTrace s).rdErr = s.rdErr := by unfold decodeTrace; split_ifs <;> rfl
@[simp] theorem decodeTrace_ovf (s : State) : (decodeTrace s).ovf = s.ovf := by unfold decodeTrace; split_ifs <;> rfl
@[simp] theorem decodeTrace_phase (s : State) : (decodeTrace s).phase = s.phase := by unfold decodeTrace; split_ifs <;> rfl
@[simp] theorem decodeTrace_cnt (s : State) : (decodeTrace s).cnt = s.cnt := by unfold decodeTrace; split_ifs <;> rfl
@[simp] theorem decodeTrace_prev (s : State) : (decodeTrace s).prev = s.prev := by unfold decodeTrace; split_ifs <;> rfl
@[simp] theorem decodeTrace_line (s : State) : (decodeTrace s).line = s.line := by unfold decodeTrace; split_ifs <;> rfl
@[simp] theorem decodeTrace_oe (s : State) : (decodeTrace s).oe = s.oe := by unfold decodeTrace; split_ifs <;> rfl
@[simp] theorem decodeTrace_out (s : State) : (decodeTrace s).out = s.out := by unfold decodeTrace; split_ifs <;> rfl
@[simp] theorem decodeTrace_edge (s : State) : (decodeTrace s).edge = s.edge := by unfold decodeTrace; split_ifs <;> rfl
@[simp] theorem decodeTrace_fill (s : State) : (decodeTrace s).fill = s.fill := by unfold decodeTrace; split_ifs <;> rfl
@[simp] theorem decodeTrace_rptr (s : State) : (decodeTrace s).rptr = s.rptr := by unfold decodeTrace; split_ifs <;> rfl
@[simp] theorem decodeTrace_edgeCount (s : State) : (decodeTrace s).edgeCount = s.edgeCount := by unfold decodeTrace; split_ifs <;> rfl
@[simp] theorem decodeTrace_timer (s : State) : (decodeTrace s).timer = s.timer := by unfold decodeTrace; split_ifs <;> rfl
@[simp] theorem decodeTrace_extraDepth (s : State) : (decodeTrace s).extraDepth = s.extraDepth := by unfold decodeTrace; split_ifs <;> rfl
@[simp] theorem decodeTrace_edgeEpoch (s : State) : (decodeTrace s).edgeEpoch = s.edgeEpoch := by unfold decodeTrace; split_ifs <;> rfl
@[simp] theorem decodeTrace_rdata (s : State) : (decodeTrace s).rdata = s.rdata := by unfold decodeTrace; split_ifs <;> rfl
@[simp] theorem decodeTrace_events (s : State) : (decodeTrace s).events = s.events := by unfold decodeTrace; split_ifs <;> rfl
@[simp] theorem decodeTrace_drawn (s : State) : (decodeTrace s).drawn = s.drawn := by unfold decodeTrace; split_ifs <;> rfl

/-! ### `enterRelease` -/

@[simp] theorem enterRelease_model (s : State) : (enterRelease s).model = s.model := by unfold enterRelease; split_ifs <;> rfl
@[simp] theorem enterRelease_csumMode (s : State) : (enterRelease s).csumMode = s.csumMode := by unfold enterRelease; split_ifs <;> rfl
@[simp] theorem enterRelease_ie (s : State) : (enterRelease s).ie = s.ie := by unfold enterRelease; split_ifs <;> rfl
@[simp] theorem enterRelease_startLow (s : State) : (enterRelease s).startLow = s.startLow := by unfold enterRelease; split_ifs <;> rfl
@[simp] theorem enterRelease_release (s : State) : (enterRelease s).release = s.release := by unfold enterRelease; split_ifs <;> rfl
@[simp] theorem enterRelease_window (s : State) : (enterRelease s).window = s.window := by unfold enterRelease; split_ifs <;> rfl
@[simp] theorem enterRelease_thresh (s : State) : (enterRelease s).thresh = s.thresh := by unfold enterRelease; split_ifs <;> rfl
@[simp] theorem enterRelease_done (s : State) : (enterRelease s).done = s.done := by unfold enterRelease; split_ifs <;> rfl
@[simp] theorem enterRelease_cmdErr (s : State) : (enterRelease s).cmdErr = s.cmdErr := by unfold enterRelease; split_ifs <;> rfl
@[simp] theorem enterRelease_wrErr (s : State) : (enterRelease s).wrErr = s.wrErr := by unfold enterRelease; split_ifs <;> rfl
@[simp] theorem enterRelease_rdErr (s : State) : (enterRelease s).rdErr = s.rdErr := by unfold enterRelease; split_ifs <;> rfl
@[simp] theorem enterRelease_ovf (s : State) : (enterRelease s).ovf = s.ovf := by unfold enterRelease; split_ifs <;> rfl
@[simp] theorem enterRelease_result (s : State) : (enterRelease s).result = s.result := by unfold enterRelease; split_ifs <;> rfl
@[simp] theorem enterRelease_line (s : State) : (enterRelease s).line = s.line := by unfold enterRelease; split_ifs <;> rfl
@[simp] theorem enterRelease_edge (s : State) : (enterRelease s).edge = s.edge := by unfold enterRelease; split_ifs <;> rfl
@[simp] theorem enterRelease_fill (s : State) : (enterRelease s).fill = s.fill := by unfold enterRelease; split_ifs <;> rfl
@[simp] theorem enterRelease_rptr (s : State) : (enterRelease s).rptr = s.rptr := by unfold enterRelease; split_ifs <;> rfl
@[simp] theorem enterRelease_edgeCount (s : State) : (enterRelease s).edgeCount = s.edgeCount := by unfold enterRelease; split_ifs <;> rfl
@[simp] theorem enterRelease_bitCount (s : State) : (enterRelease s).bitCount = s.bitCount := by unfold enterRelease; split_ifs <;> rfl
@[simp] theorem enterRelease_raw (s : State) : (enterRelease s).raw = s.raw := by unfold enterRelease; split_ifs <;> rfl
@[simp] theorem enterRelease_hum (s : State) : (enterRelease s).hum = s.hum := by unfold enterRelease; split_ifs <;> rfl
@[simp] theorem enterRelease_temp (s : State) : (enterRelease s).temp = s.temp := by unfold enterRelease; split_ifs <;> rfl
@[simp] theorem enterRelease_timer (s : State) : (enterRelease s).timer = s.timer := by unfold enterRelease; split_ifs <;> rfl
@[simp] theorem enterRelease_extraDepth (s : State) : (enterRelease s).extraDepth = s.extraDepth := by unfold enterRelease; split_ifs <;> rfl
@[simp] theorem enterRelease_edgeEpoch (s : State) : (enterRelease s).edgeEpoch = s.edgeEpoch := by unfold enterRelease; split_ifs <;> rfl
@[simp] theorem enterRelease_rdata (s : State) : (enterRelease s).rdata = s.rdata := by unfold enterRelease; split_ifs <;> rfl
@[simp] theorem enterRelease_events (s : State) : (enterRelease s).events = s.events := by unfold enterRelease; split_ifs <;> rfl
@[simp] theorem enterRelease_drawn (s : State) : (enterRelease s).drawn = s.drawn := by unfold enterRelease; split_ifs <;> rfl

@[simp] theorem enterRelease_cnt (s : State) : (enterRelease s).cnt = 0 := by unfold enterRelease; split_ifs <;> rfl

end Sys2Proof.Machine
end

