-- ==== Sys2Proof/Laws/Fifo.lean ====
section
/-! SUPPORT. The FIFO storage: a read after a write, and the canonical form that every write keeps (10_state.md
R35, 41_sampler.md R150). -/

namespace Sys2Proof.Machine

/-- A read of the written index gives the written value; every other index reads as before. -/
theorem edgeLookup_insert (i j : Nat) (v : Half) (es : List (Nat × Half)) :
    edgeLookup j (edgeInsert i v es) = if i = j then some v else edgeLookup j es := by
  induction es with
  | nil => simp [edgeInsert, edgeLookup]
  | cons e es ih =>
    obtain ⟨k, u⟩ := e
    by_cases h1 : i < k
    · simp [edgeInsert, h1, edgeLookup]
    · by_cases h2 : i = k
      · subst h2; by_cases h : i = j <;> simp [edgeInsert, edgeLookup, h]
      · by_cases hk : k = j
        · subst hk; simp [edgeInsert, h1, h2, edgeLookup]
        · simp [edgeInsert, h1, h2, edgeLookup, hk, ih]

theorem mem_edgeInsert {i : Nat} {v : Half} {es : List (Nat × Half)} {e : Nat × Half}
    (h : e ∈ edgeInsert i v es) : e = (i, v) ∨ e ∈ es := by
  induction es with
  | nil => simpa [edgeInsert] using h
  | cons c es ih =>
    obtain ⟨k, u⟩ := c
    unfold edgeInsert at h
    split_ifs at h
    · simpa using h
    · simp only [List.mem_cons] at h ⊢; tauto
    · simp only [List.mem_cons] at h ⊢
      rcases h with h | h
      · exact .inr (.inl h)
      · exact (ih h).imp id .inr

theorem edgeWf_iff (depth : Nat) (es : List (Nat × Half)) :
    edgeWf depth es = true ↔ es.Pairwise (fun a b => a.1 < b.1) ∧ ∀ e ∈ es, e.1 < depth := by
  simp [edgeWf]

theorem pairwise_edgeInsert (i : Nat) (v : Half) {es : List (Nat × Half)}
    (h : es.Pairwise fun a b => a.1 < b.1) : (edgeInsert i v es).Pairwise fun a b => a.1 < b.1 := by
  induction es with
  | nil => simp [edgeInsert]
  | cons c es ih =>
    obtain ⟨k, u⟩ := c
    obtain ⟨hk, hes⟩ := List.pairwise_cons.mp h
    unfold edgeInsert
    split_ifs with h1 h2
    · refine List.pairwise_cons.mpr ⟨?_, h⟩
      intro e he
      rcases List.mem_cons.mp he with rfl | he
      · exact h1
      · exact Nat.lt_trans h1 (hk e he)
    · subst h2; exact List.pairwise_cons.mpr ⟨hk, hes⟩
    · refine List.pairwise_cons.mpr ⟨?_, ih hes⟩
      intro e he
      rcases mem_edgeInsert he with rfl | he
      · exact Nat.lt_of_le_of_ne (by omega) (Ne.symm h2)
      · exact hk e he

/-- A write below FIFO_DEPTH keeps the canonical form. -/
theorem edgeWf_insert {depth i : Nat} (v : Half) {es : List (Nat × Half)} (hi : i < depth)
    (h : edgeWf depth es = true) : edgeWf depth (edgeInsert i v es) = true := by
  rw [edgeWf_iff] at h ⊢
  refine ⟨pairwise_edgeInsert i v h.1, fun e he => ?_⟩
  rcases mem_edgeInsert he with rfl | he
  · exact hi
  · exact h.2 e he

/-- RecordEdge keeps the canonical form. -/
theorem edgeWf_recordEdge (t : Half) {s : State} (h : edgeWf s.fifoDepth s.edge = true) :
    edgeWf s.fifoDepth (recordEdge t s).edge = true := by
  rw [recordEdge_edge]
  split_ifs with hf
  · exact edgeWf_insert t hf h
  · exact h

/-- FIFO_DEPTH is legal (00_scope.md R7). -/
theorem fifoDepth_bounds (s : State) : 42 ≤ s.fifoDepth ∧ s.fifoDepth ≤ 255 := by
  have := s.extraDepth.isLt
  simp only [State.fifoDepth, Config.minFifoDepth]
  omega

theorem fifoDepth_congr {s t : State} (h : t.extraDepth = s.extraDepth) : t.fifoDepth = s.fifoDepth := by
  simp [State.fifoDepth, h]

theorem edgeAt_congr {s t : State} (he : t.edge = s.edge) (hp : t.edgeEpoch = s.edgeEpoch) (i : Nat) :
    t.edgeAt i = s.edgeAt i := by
  simp [State.edgeAt, he, hp]

/-- What RecordEdge leaves in EDGE: the timestamp at S when the FIFO is not full, every other entry as
before (41_sampler.md R150). -/
theorem edgeAt_recordEdge (t : Half) (s : State) (j : Nat) :
    (recordEdge t s).edgeAt j = if s.fill < s.fifoDepth ∧ s.fill = j then t else s.edgeAt j := by
  simp only [State.edgeAt, recordEdge_edge, recordEdge_edgeEpoch]
  by_cases hf : s.fill < s.fifoDepth
  · simp only [hf, if_true, true_and, edgeLookup_insert]
    by_cases hj : s.fill = j <;> simp [hj]
  · simp [hf]

@[simp] theorem recordEdge_fifoDepth (t : Half) (s : State) : (recordEdge t s).fifoDepth = s.fifoDepth := rfl

end Sys2Proof.Machine
end

