-- ==== Sys2Proof/Laws/Exec.lean ====
section
/-! SUPPORT. What a host operation can do, said once: every operation answers a next state, and that state is
one of the shapes of `HostEffect` (40_register_access.md, 41_sampler.md R142, R154, R155, 42_frame_decoder.md
R178, 44_interpreter.md R207). -/

namespace Sys2Proof.Machine

/-! ## The guards -/

@[simp] theorem busy_iff (s : State) : s.busy = true ↔ s.phase ≠ .idle := by simp [State.busy]

theorem unlessBusyWrite_idle {s : State} (w : State) (h : s.phase = .idle) : unlessBusyWrite w s = w := by
  simp [unlessBusyWrite, h]

theorem unlessBusyWrite_busy {s : State} (w : State) (h : s.phase ≠ .idle) :
    unlessBusyWrite w s = flagWrErr s := by
  simp [unlessBusyWrite, h]

theorem unlessBusyCommand_idle {s : State} (c : State) (h : s.phase = .idle) : unlessBusyCommand c s = c := by
  simp [unlessBusyCommand, h]

theorem unlessBusyCommand_busy {s : State} (c : State) (h : s.phase ≠ .idle) :
    unlessBusyCommand c s = flagCmdErr s := by
  simp [unlessBusyCommand, h]

/-! ## The shapes -/

/-- What operation `i` makes of state `s`. -/
inductive HostEffect (i : Instr) (s : State) : State → Prop
  | read (v : Word) : HostEffect i s (respond v s)
  | pop : i = .rdTsData → s.rptr < s.fill → HostEffect i s (popEdge s)
  | popEmpty : i = .rdTsData → ¬ s.rptr < s.fill → HostEffect i s (respond 0 (flagRdErr s))
  | nothing : HostEffect i s s
  | writeRejected : isGuardedWrite i = true → s.phase ≠ .idle → HostEffect i s (flagWrErr s)
  | commandRejected : isCommand i = true → HostEffect i s (flagCmdErr s)
  | clearFlags (w : Word) : i = .wrStatus w → HostEffect i s (clearFlags w s)
  | ctrl (w : Word) : i = .wrCtrl w → s.phase = .idle →
      HostEffect i s { s with model := .ofBit (w.getLsbD 0), csumMode := .ofBit (w.getLsbD 1), ie := w.getLsbD 2 }
  | startLow (w : Word) : i = .wrStartLow w → s.phase = .idle →
      HostEffect i s { s with startLow := startLowOperand w }
  | release (w : Word) : i = .wrRelease w → s.phase = .idle → HostEffect i s { s with release := byteOf 0 w }
  | window (w : Word) : i = .wrWindow w → s.phase = .idle → HostEffect i s { s with window := lowHalf w }
  | thresh (w : Word) : i = .wrThresh w → s.phase = .idle → HostEffect i s { s with thresh := lowHalf w }
  | rawLo (w : Word) : i = .wrRawLo w → s.phase = .idle →
      HostEffect i s { s with raw := ⟨byteOf 0 w, byteOf 1 w, byteOf 2 w, byteOf 3 w, s.raw.b4⟩ }
  | rawHi (w : Word) : i = .wrRawHi w → s.phase = .idle →
      HostEffect i s { s with raw := { s.raw with b4 := byteOf 0 w } }
  | push (w : Word) : i = .wrTsData w → s.phase = .idle → HostEffect i s (recordEdge (lowHalf w) s)
  | start : i = .start → s.phase = .idle → HostEffect i s (acceptStart s)
  | clear : i = .clear → s.phase = .idle → HostEffect i s (clearData s)
  | decode : i = .decode → s.phase = .idle → HostEffect i s (setDone (decodeTrace (clearDone s)))
  | interpret : i = .interpret → s.phase = .idle → HostEffect i s (setDone (checkInterpret (clearDone s)))

/-- An operation whose access word is a command's is a command. -/
theorem isCommand_of_encode {i : Instr} {w : Word} (h : encodeWord i = encodeCommand w) : isCommand i = true := by
  simp only [isCommand, h, encodeCommand, accessWrite_accessWord, accessIndex_accessWord, decide_true,
    Bool.and_self]

/-- What a guarded write answers. -/
theorem HostEffect.ofWrite {i : Instr} {s w t : State} (hi : isGuardedWrite i = true)
    (hw : s.phase = .idle → HostEffect i s w) (h : Host.Outcome.next (unlessBusyWrite w s) = (.next t : Answer)) :
    HostEffect i s t := by
  injection h with h
  subst h
  by_cases hp : s.phase = .idle
  · rw [unlessBusyWrite_idle w hp]; exact hw hp
  · rw [unlessBusyWrite_busy w hp]; exact .writeRejected hi hp

/-- What a guarded command answers. -/
theorem HostEffect.ofCommand {i : Instr} {s c t : State} (hi : isCommand i = true)
    (hc : s.phase = .idle → HostEffect i s c) (h : Host.Outcome.next (unlessBusyCommand c s) = (.next t : Answer)) :
    HostEffect i s t := by
  injection h with h
  subst h
  by_cases hp : s.phase = .idle
  · rw [unlessBusyCommand_idle c hp]; exact hc hp
  · rw [unlessBusyCommand_busy c hp]; exact .commandRejected hi

/-- The inversion of exec: a host operation's next state is one of the shapes. -/
theorem exec_effect {i : Instr} {s t : State} (h : exec i s = .next t) : HostEffect i s t := by
  cases i
  case rdTsData =>
    injection h with h
    subst h
    by_cases hr : s.rptr < s.fill
    · rw [if_pos hr]; exact .pop rfl hr
    · rw [if_neg hr]; exact .popEmpty rfl hr
  case wrCtrl w => exact .ofWrite rfl (.ctrl w rfl) h
  case wrStartLow w => exact .ofWrite rfl (.startLow w rfl) h
  case wrRelease w => exact .ofWrite rfl (.release w rfl) h
  case wrWindow w => exact .ofWrite rfl (.window w rfl) h
  case wrThresh w => exact .ofWrite rfl (.thresh w rfl) h
  case wrTsData w => exact .ofWrite rfl (.push w rfl) h
  case wrRawLo w => exact .ofWrite rfl (.rawLo w rfl) h
  case wrRawHi w => exact .ofWrite rfl (.rawHi w rfl) h
  case start => exact .ofCommand (isCommand_of_encode rfl) (.start rfl) h
  case decode => exact .ofCommand (isCommand_of_encode rfl) (.decode rfl) h
  case interpret => exact .ofCommand (isCommand_of_encode rfl) (.interpret rfl) h
  case clear => exact .ofCommand (isCommand_of_encode rfl) (.clear rfl) h
  case wrStatus w => injection h with h; subst h; exact .clearFlags w rfl
  all_goals injection h with h; subst h
  all_goals first
    | exact .nothing
    | exact .read _
    | exact .commandRejected (isCommand_of_encode rfl)

/-- The fields no host operation writes. -/
theorem exec_frame {i : Instr} {s t : State} (h : exec i s = .next t) :
    t.prev = s.prev ∧ t.line = s.line ∧ t.timer = s.timer ∧ t.extraDepth = s.extraDepth ∧
      t.edgeEpoch = s.edgeEpoch ∧ t.events = s.events ∧ t.drawn = s.drawn := by
  cases exec_effect h <;> simp

end Sys2Proof.Machine
end

