-- ==== Sys2Proof/Laws/PerInstr.lean ====
section
/-! SUPPORT. Per operation: an operation's access word is taken by the operation's own row of the opcode table
(30_encoding.md R81). -/

namespace Sys2Proof.Laws.EncodesToRow

/-- The row of a well-formed operation takes its access word. -/
def Statement (i : Instr) : Prop := wellFormed i = true → (rowOf i).takes (encodeWord i) = true

/-- A row that looks at IDX alone takes every word with that IDX. -/
theorem takes_write (m : String) (idx : Index) (d : Word) (p k : AccessWord)
    (hk : k = accessWord true 31 0) (hp : p = accessWord true idx 0) :
    (OpcodeRow.mk m p k).takes (encodeWrite idx d) = true := by
  subst hk hp
  have h31 : idx &&& (31#5) = idx := BitVec.and_allOnes
  simp [OpcodeRow.takes, encodeWrite, accessWord_and, h31]

/-- A row of reserved indices takes the words whose masked index is the row's. -/
theorem takes_index (m : String) (w : Bool) (idx mask base : Index) (d : Word) (p k : AccessWord)
    (hk : k = accessWord true mask 0) (hp : p = accessWord w base 0) (h : idx &&& mask = base) :
    (OpcodeRow.mk m p k).takes (accessWord w idx d) = true := by
  subst hk hp h
  simp [OpcodeRow.takes, accessWord_and]

/-- A row of reserved command words takes the words whose masked command word is the row's. -/
theorem takes_command (m : String) (d mask base : Word) (p k : AccessWord)
    (hk : k = accessWord true 31 mask) (hp : p = accessWord true 3 base) (h : d &&& mask = base) :
    (OpcodeRow.mk m p k).takes (encodeCommand d) = true := by
  subst hk hp h
  simp [OpcodeRow.takes, encodeCommand, accessWord_and]

/-- The words of a reserved row have one bit pattern from the row's highest bit up. -/
theorem masked_eq_of_div (n q : Nat) (hn : n ≤ 32) (d mask base : Word)
    (hmask : mask = BitVec.allOnes 32 <<< n) (hbase : base = BitVec.ofNat 32 (q * 2 ^ n))
    (hq : q * 2 ^ n < 2 ^ 32) (h : d.toNat / 2 ^ n = q) : d &&& mask = base := by
  subst hmask hbase h
  apply BitVec.eq_of_getLsbD_eq
  intro i hi
  simp only [BitVec.getLsbD_and, BitVec.getLsbD_shiftLeft, BitVec.getLsbD_allOnes, BitVec.getLsbD_ofNat,
    Nat.testBit_mul_two_pow, Nat.testBit_div_two_pow]
  by_cases hin : n ≤ i
  · simp [hi, hin, BitVec.getLsbD, Nat.sub_add_cancel hin, show i - n < 32 by omega]
  · simp [hi, show ¬ n ≤ i by omega, show i < n by omega]

theorem rdId : Statement (.rdId) := fun _ => by decide

theorem rdParam : Statement (.rdParam) := fun _ => by decide

theorem rdCtrl : Statement (.rdCtrl) := fun _ => by decide

theorem rdCmd : Statement (.rdCmd) := fun _ => by decide

theorem rdStatus : Statement (.rdStatus) := fun _ => by decide

theorem rdStartLow : Statement (.rdStartLow) := fun _ => by decide

theorem rdRelease : Statement (.rdRelease) := fun _ => by decide

theorem rdWindow : Statement (.rdWindow) := fun _ => by decide

theorem rdThresh : Statement (.rdThresh) := fun _ => by decide

theorem rdEdgeCount : Statement (.rdEdgeCount) := fun _ => by decide

theorem rdBitcount : Statement (.rdBitcount) := fun _ => by decide

theorem rdTsData : Statement (.rdTsData) := fun _ => by decide

theorem rdFifoLevel : Statement (.rdFifoLevel) := fun _ => by decide

theorem rdRawLo : Statement (.rdRawLo) := fun _ => by decide

theorem rdRawHi : Statement (.rdRawHi) := fun _ => by decide

theorem rdHum : Statement (.rdHum) := fun _ => by decide

theorem rdTemp : Statement (.rdTemp) := fun _ => by decide

theorem rdTimer : Statement (.rdTimer) := fun _ => by decide

theorem rdRsvd18To19 (idx : Index) : Statement (.rdRsvd18To19 idx) := fun h =>
  takes_index _ false _ 30 18 _ _ _ (by decide) (by decide) (by change inRange 18 19 idx.toNat = true at h; revert idx; decide)

theorem rdRsvd20To23 (idx : Index) : Statement (.rdRsvd20To23 idx) := fun h =>
  takes_index _ false _ 28 20 _ _ _ (by decide) (by decide) (by change inRange 20 23 idx.toNat = true at h; revert idx; decide)

theorem rdRsvd24To31 (idx : Index) : Statement (.rdRsvd24To31 idx) := fun h =>
  takes_index _ false _ 24 24 _ _ _ (by decide) (by decide) (by change inRange 24 31 idx.toNat = true at h; revert idx; decide)

theorem wrId (wdata : Word) : Statement (.wrId wdata) := fun _ => takes_write _ _ _ _ _ (by decide) (by decide)

theorem wrParam (wdata : Word) : Statement (.wrParam wdata) := fun _ => takes_write _ _ _ _ _ (by decide) (by decide)

theorem wrCtrl (wdata : Word) : Statement (.wrCtrl wdata) := fun _ => takes_write _ _ _ _ _ (by decide) (by decide)

theorem wrStatus (wdata : Word) : Statement (.wrStatus wdata) := fun _ => takes_write _ _ _ _ _ (by decide) (by decide)

theorem wrStartLow (wdata : Word) : Statement (.wrStartLow wdata) := fun _ => takes_write _ _ _ _ _ (by decide) (by decide)

theorem wrRelease (wdata : Word) : Statement (.wrRelease wdata) := fun _ => takes_write _ _ _ _ _ (by decide) (by decide)

theorem wrWindow (wdata : Word) : Statement (.wrWindow wdata) := fun _ => takes_write _ _ _ _ _ (by decide) (by decide)

theorem wrThresh (wdata : Word) : Statement (.wrThresh wdata) := fun _ => takes_write _ _ _ _ _ (by decide) (by decide)

theorem wrEdgeCount (wdata : Word) : Statement (.wrEdgeCount wdata) := fun _ => takes_write _ _ _ _ _ (by decide) (by decide)

theorem wrBitcount (wdata : Word) : Statement (.wrBitcount wdata) := fun _ => takes_write _ _ _ _ _ (by decide) (by decide)

theorem wrTsData (wdata : Word) : Statement (.wrTsData wdata) := fun _ => takes_write _ _ _ _ _ (by decide) (by decide)

theorem wrFifoLevel (wdata : Word) : Statement (.wrFifoLevel wdata) := fun _ => takes_write _ _ _ _ _ (by decide) (by decide)

theorem wrRawLo (wdata : Word) : Statement (.wrRawLo wdata) := fun _ => takes_write _ _ _ _ _ (by decide) (by decide)

theorem wrRawHi (wdata : Word) : Statement (.wrRawHi wdata) := fun _ => takes_write _ _ _ _ _ (by decide) (by decide)

theorem wrHum (wdata : Word) : Statement (.wrHum wdata) := fun _ => takes_write _ _ _ _ _ (by decide) (by decide)

theorem wrTemp (wdata : Word) : Statement (.wrTemp wdata) := fun _ => takes_write _ _ _ _ _ (by decide) (by decide)

theorem wrTimer (wdata : Word) : Statement (.wrTimer wdata) := fun _ => takes_write _ _ _ _ _ (by decide) (by decide)

theorem wrRsvd18To19 (idx : Index) (wdata : Word) : Statement (.wrRsvd18To19 idx wdata) := fun h =>
  takes_index _ true _ 30 18 _ _ _ (by decide) (by decide) (by change inRange 18 19 idx.toNat = true at h; revert idx; decide)

theorem wrRsvd20To23 (idx : Index) (wdata : Word) : Statement (.wrRsvd20To23 idx wdata) := fun h =>
  takes_index _ true _ 28 20 _ _ _ (by decide) (by decide) (by change inRange 20 23 idx.toNat = true at h; revert idx; decide)

theorem wrRsvd24To31 (idx : Index) (wdata : Word) : Statement (.wrRsvd24To31 idx wdata) := fun h =>
  takes_index _ true _ 24 24 _ _ _ (by decide) (by decide) (by change inRange 24 31 idx.toNat = true at h; revert idx; decide)

theorem nop : Statement (.nop) := fun _ => by decide

theorem start : Statement (.start) := fun _ => by decide

theorem decode : Statement (.decode) := fun _ => by decide

theorem interpret : Statement (.interpret) := fun _ => by decide

theorem clear : Statement (.clear) := fun _ => by decide

theorem cmdRsvdB31 (cmdword : Word) : Statement (.cmdRsvdB31 cmdword) := fun h => by
  simp only [wellFormed, topBitIs, inRange, Bool.and_eq_true, decide_eq_true_eq] at h
  exact takes_command _ _ 0x80000000 0x80000000 _ _ (by decide) (by decide)
    (masked_eq_of_div 31 1 (by decide) _ _ _ (by decide) (by decide) (by decide) (by omega))

theorem cmdRsvdB30 (cmdword : Word) : Statement (.cmdRsvdB30 cmdword) := fun h => by
  simp only [wellFormed, topBitIs, inRange, Bool.and_eq_true, decide_eq_true_eq] at h
  exact takes_command _ _ 0xC0000000 0x40000000 _ _ (by decide) (by decide)
    (masked_eq_of_div 30 1 (by decide) _ _ _ (by decide) (by decide) (by decide) (by omega))

theorem cmdRsvdB29 (cmdword : Word) : Statement (.cmdRsvdB29 cmdword) := fun h => by
  simp only [wellFormed, topBitIs, inRange, Bool.and_eq_true, decide_eq_true_eq] at h
  exact takes_command _ _ 0xE0000000 0x20000000 _ _ (by decide) (by decide)
    (masked_eq_of_div 29 1 (by decide) _ _ _ (by decide) (by decide) (by decide) (by omega))

theorem cmdRsvdB28 (cmdword : Word) : Statement (.cmdRsvdB28 cmdword) := fun h => by
  simp only [wellFormed, topBitIs, inRange, Bool.and_eq_true, decide_eq_true_eq] at h
  exact takes_command _ _ 0xF0000000 0x10000000 _ _ (by decide) (by decide)
    (masked_eq_of_div 28 1 (by decide) _ _ _ (by decide) (by decide) (by decide) (by omega))

theorem cmdRsvdB27 (cmdword : Word) : Statement (.cmdRsvdB27 cmdword) := fun h => by
  simp only [wellFormed, topBitIs, inRange, Bool.and_eq_true, decide_eq_true_eq] at h
  exact takes_command _ _ 0xF8000000 0x08000000 _ _ (by decide) (by decide)
    (masked_eq_of_div 27 1 (by decide) _ _ _ (by decide) (by decide) (by decide) (by omega))

theorem cmdRsvdB26 (cmdword : Word) : Statement (.cmdRsvdB26 cmdword) := fun h => by
  simp only [wellFormed, topBitIs, inRange, Bool.and_eq_true, decide_eq_true_eq] at h
  exact takes_command _ _ 0xFC000000 0x04000000 _ _ (by decide) (by decide)
    (masked_eq_of_div 26 1 (by decide) _ _ _ (by decide) (by decide) (by decide) (by omega))

theorem cmdRsvdB25 (cmdword : Word) : Statement (.cmdRsvdB25 cmdword) := fun h => by
  simp only [wellFormed, topBitIs, inRange, Bool.and_eq_true, decide_eq_true_eq] at h
  exact takes_command _ _ 0xFE000000 0x02000000 _ _ (by decide) (by decide)
    (masked_eq_of_div 25 1 (by decide) _ _ _ (by decide) (by decide) (by decide) (by omega))

theorem cmdRsvdB24 (cmdword : Word) : Statement (.cmdRsvdB24 cmdword) := fun h => by
  simp only [wellFormed, topBitIs, inRange, Bool.and_eq_true, decide_eq_true_eq] at h
  exact takes_command _ _ 0xFF000000 0x01000000 _ _ (by decide) (by decide)
    (masked_eq_of_div 24 1 (by decide) _ _ _ (by decide) (by decide) (by decide) (by omega))

theorem cmdRsvdB23 (cmdword : Word) : Statement (.cmdRsvdB23 cmdword) := fun h => by
  simp only [wellFormed, topBitIs, inRange, Bool.and_eq_true, decide_eq_true_eq] at h
  exact takes_command _ _ 0xFF800000 0x00800000 _ _ (by decide) (by decide)
    (masked_eq_of_div 23 1 (by decide) _ _ _ (by decide) (by decide) (by decide) (by omega))

theorem cmdRsvdB22 (cmdword : Word) : Statement (.cmdRsvdB22 cmdword) := fun h => by
  simp only [wellFormed, topBitIs, inRange, Bool.and_eq_true, decide_eq_true_eq] at h
  exact takes_command _ _ 0xFFC00000 0x00400000 _ _ (by decide) (by decide)
    (masked_eq_of_div 22 1 (by decide) _ _ _ (by decide) (by decide) (by decide) (by omega))

theorem cmdRsvdB21 (cmdword : Word) : Statement (.cmdRsvdB21 cmdword) := fun h => by
  simp only [wellFormed, topBitIs, inRange, Bool.and_eq_true, decide_eq_true_eq] at h
  exact takes_command _ _ 0xFFE00000 0x00200000 _ _ (by decide) (by decide)
    (masked_eq_of_div 21 1 (by decide) _ _ _ (by decide) (by decide) (by decide) (by omega))

theorem cmdRsvdB20 (cmdword : Word) : Statement (.cmdRsvdB20 cmdword) := fun h => by
  simp only [wellFormed, topBitIs, inRange, Bool.and_eq_true, decide_eq_true_eq] at h
  exact takes_command _ _ 0xFFF00000 0x00100000 _ _ (by decide) (by decide)
    (masked_eq_of_div 20 1 (by decide) _ _ _ (by decide) (by decide) (by decide) (by omega))

theorem cmdRsvdB19 (cmdword : Word) : Statement (.cmdRsvdB19 cmdword) := fun h => by
  simp only [wellFormed, topBitIs, inRange, Bool.and_eq_true, decide_eq_true_eq] at h
  exact takes_command _ _ 0xFFF80000 0x00080000 _ _ (by decide) (by decide)
    (masked_eq_of_div 19 1 (by decide) _ _ _ (by decide) (by decide) (by decide) (by omega))

theorem cmdRsvdB18 (cmdword : Word) : Statement (.cmdRsvdB18 cmdword) := fun h => by
  simp only [wellFormed, topBitIs, inRange, Bool.and_eq_true, decide_eq_true_eq] at h
  exact takes_command _ _ 0xFFFC0000 0x00040000 _ _ (by decide) (by decide)
    (masked_eq_of_div 18 1 (by decide) _ _ _ (by decide) (by decide) (by decide) (by omega))

theorem cmdRsvdB17 (cmdword : Word) : Statement (.cmdRsvdB17 cmdword) := fun h => by
  simp only [wellFormed, topBitIs, inRange, Bool.and_eq_true, decide_eq_true_eq] at h
  exact takes_command _ _ 0xFFFE0000 0x00020000 _ _ (by decide) (by decide)
    (masked_eq_of_div 17 1 (by decide) _ _ _ (by decide) (by decide) (by decide) (by omega))

theorem cmdRsvdB16 (cmdword : Word) : Statement (.cmdRsvdB16 cmdword) := fun h => by
  simp only [wellFormed, topBitIs, inRange, Bool.and_eq_true, decide_eq_true_eq] at h
  exact takes_command _ _ 0xFFFF0000 0x00010000 _ _ (by decide) (by decide)
    (masked_eq_of_div 16 1 (by decide) _ _ _ (by decide) (by decide) (by decide) (by omega))

theorem cmdRsvdB15 (cmdword : Word) : Statement (.cmdRsvdB15 cmdword) := fun h => by
  simp only [wellFormed, topBitIs, inRange, Bool.and_eq_true, decide_eq_true_eq] at h
  exact takes_command _ _ 0xFFFF8000 0x00008000 _ _ (by decide) (by decide)
    (masked_eq_of_div 15 1 (by decide) _ _ _ (by decide) (by decide) (by decide) (by omega))

theorem cmdRsvdB14 (cmdword : Word) : Statement (.cmdRsvdB14 cmdword) := fun h => by
  simp only [wellFormed, topBitIs, inRange, Bool.and_eq_true, decide_eq_true_eq] at h
  exact takes_command _ _ 0xFFFFC000 0x00004000 _ _ (by decide) (by decide)
    (masked_eq_of_div 14 1 (by decide) _ _ _ (by decide) (by decide) (by decide) (by omega))

theorem cmdRsvdB13 (cmdword : Word) : Statement (.cmdRsvdB13 cmdword) := fun h => by
  simp only [wellFormed, topBitIs, inRange, Bool.and_eq_true, decide_eq_true_eq] at h
  exact takes_command _ _ 0xFFFFE000 0x00002000 _ _ (by decide) (by decide)
    (masked_eq_of_div 13 1 (by decide) _ _ _ (by decide) (by decide) (by decide) (by omega))

theorem cmdRsvdB12 (cmdword : Word) : Statement (.cmdRsvdB12 cmdword) := fun h => by
  simp only [wellFormed, topBitIs, inRange, Bool.and_eq_true, decide_eq_true_eq] at h
  exact takes_command _ _ 0xFFFFF000 0x00001000 _ _ (by decide) (by decide)
    (masked_eq_of_div 12 1 (by decide) _ _ _ (by decide) (by decide) (by decide) (by omega))

theorem cmdRsvdB11 (cmdword : Word) : Statement (.cmdRsvdB11 cmdword) := fun h => by
  simp only [wellFormed, topBitIs, inRange, Bool.and_eq_true, decide_eq_true_eq] at h
  exact takes_command _ _ 0xFFFFF800 0x00000800 _ _ (by decide) (by decide)
    (masked_eq_of_div 11 1 (by decide) _ _ _ (by decide) (by decide) (by decide) (by omega))

theorem cmdRsvdB10 (cmdword : Word) : Statement (.cmdRsvdB10 cmdword) := fun h => by
  simp only [wellFormed, topBitIs, inRange, Bool.and_eq_true, decide_eq_true_eq] at h
  exact takes_command _ _ 0xFFFFFC00 0x00000400 _ _ (by decide) (by decide)
    (masked_eq_of_div 10 1 (by decide) _ _ _ (by decide) (by decide) (by decide) (by omega))

theorem cmdRsvdB9 (cmdword : Word) : Statement (.cmdRsvdB9 cmdword) := fun h => by
  simp only [wellFormed, topBitIs, inRange, Bool.and_eq_true, decide_eq_true_eq] at h
  exact takes_command _ _ 0xFFFFFE00 0x00000200 _ _ (by decide) (by decide)
    (masked_eq_of_div 9 1 (by decide) _ _ _ (by decide) (by decide) (by decide) (by omega))

theorem cmdRsvdB8 (cmdword : Word) : Statement (.cmdRsvdB8 cmdword) := fun h => by
  simp only [wellFormed, topBitIs, inRange, Bool.and_eq_true, decide_eq_true_eq] at h
  exact takes_command _ _ 0xFFFFFF00 0x00000100 _ _ (by decide) (by decide)
    (masked_eq_of_div 8 1 (by decide) _ _ _ (by decide) (by decide) (by decide) (by omega))

theorem cmdRsvdB7 (cmdword : Word) : Statement (.cmdRsvdB7 cmdword) := fun h => by
  simp only [wellFormed, topBitIs, inRange, Bool.and_eq_true, decide_eq_true_eq] at h
  exact takes_command _ _ 0xFFFFFF80 0x00000080 _ _ (by decide) (by decide)
    (masked_eq_of_div 7 1 (by decide) _ _ _ (by decide) (by decide) (by decide) (by omega))

theorem cmdRsvdB6 (cmdword : Word) : Statement (.cmdRsvdB6 cmdword) := fun h => by
  simp only [wellFormed, topBitIs, inRange, Bool.and_eq_true, decide_eq_true_eq] at h
  exact takes_command _ _ 0xFFFFFFC0 0x00000040 _ _ (by decide) (by decide)
    (masked_eq_of_div 6 1 (by decide) _ _ _ (by decide) (by decide) (by decide) (by omega))

theorem cmdRsvdB5 (cmdword : Word) : Statement (.cmdRsvdB5 cmdword) := fun h => by
  simp only [wellFormed, topBitIs, inRange, Bool.and_eq_true, decide_eq_true_eq] at h
  exact takes_command _ _ 0xFFFFFFE0 0x00000020 _ _ (by decide) (by decide)
    (masked_eq_of_div 5 1 (by decide) _ _ _ (by decide) (by decide) (by decide) (by omega))

theorem cmdRsvdB4 (cmdword : Word) : Statement (.cmdRsvdB4 cmdword) := fun h => by
  simp only [wellFormed, topBitIs, inRange, Bool.and_eq_true, decide_eq_true_eq] at h
  exact takes_command _ _ 0xFFFFFFF0 0x00000010 _ _ (by decide) (by decide)
    (masked_eq_of_div 4 1 (by decide) _ _ _ (by decide) (by decide) (by decide) (by omega))

theorem cmdRsvdB3 (cmdword : Word) : Statement (.cmdRsvdB3 cmdword) := fun h => by
  simp only [wellFormed, topBitIs, inRange, Bool.and_eq_true, decide_eq_true_eq] at h
  exact takes_command _ _ 0xFFFFFFF8 0x00000008 _ _ (by decide) (by decide)
    (masked_eq_of_div 3 1 (by decide) _ _ _ (by decide) (by decide) (by decide) (by omega))

theorem cmdRsvd6To7 (cmdword : Word) : Statement (.cmdRsvd6To7 cmdword) := fun h => by
  simp only [wellFormed, inRange, Bool.and_eq_true, decide_eq_true_eq] at h
  exact takes_command _ _ 0xFFFFFFFE 0x00000006 _ _ (by decide) (by decide)
    (masked_eq_of_div 1 3 (by decide) _ _ _ (by decide) (by decide) (by decide) (by omega))

theorem cmdRsvd5 : Statement (.cmdRsvd5) := fun _ => by decide

end Sys2Proof.Laws.EncodesToRow
end

