-- ==== Sys2Proof/Laws/Sampler.lean ====
section
/-! SUPPORT. What a tick can do, phase by phase, and what no tick touches (41_sampler.md R143 to R151). -/

namespace Sys2Proof.Machine

/-! ## Counting -/

/-- Counting up below a 16-bit bound does not wrap (41_sampler.md R145, R147, R149). -/
theorem countUp_cnt_toNat {s : State} {b : Nat} (hb : b ≤ 65535) (h : nextCount s < b) :
    (countUp s).cnt.toNat = s.cnt.toNat + 1 := by
  simp only [countUp_cnt, nextCount, BitVec.toNat_ofNat] at h ⊢
  omega

theorem startLow_le (s : State) : s.startLow.toNat ≤ 65535 := by have := s.startLow.isLt; omega
theorem window_le (s : State) : s.window.toNat ≤ 65535 := by have := s.window.isLt; omega
theorem release_le (s : State) : s.release.toNat ≤ 65535 := by have := s.release.isLt; omega

/-! ## The phase step, by phase -/

@[simp] theorem phaseStep_idle {l : Bool} {s : State} (h : s.phase = .idle) : phaseStep l s = s := by
  simp [phaseStep, h]

@[simp] theorem phaseStep_start {l : Bool} {s : State} (h : s.phase = .start) : phaseStep l s = tickStart s := by
  simp [phaseStep, h]

@[simp] theorem phaseStep_release {l : Bool} {s : State} (h : s.phase = .release) :
    phaseStep l s = tickRelease s := by
  simp [phaseStep, h]

@[simp] theorem phaseStep_capture {l : Bool} {s : State} (h : s.phase = .capture) :
    phaseStep l s = tickCapture l s := by
  simp [phaseStep, h]

@[simp] theorem phaseStep_restore {l : Bool} {s : State} (h : s.phase = .restore) :
    phaseStep l s = tickRestore s := by
  simp [phaseStep, h]

/-- enter_capture() and enter_release() leave the FIFO and the counters alone, and count from 0. -/
inductive PhaseEntry (s : State) : State → Prop
  | release : s.release.toNat ≠ 0 →
      PhaseEntry s { s with phase := .release, cnt := 0, oe := true, out := true }
  | capture : PhaseEntry s (enterCapture s)

theorem enterRelease_entry (s : State) : PhaseEntry s (enterRelease s) := by
  unfold enterRelease
  split_ifs with h
  · exact .capture
  · exact .release h

/-- What a tick's phase step makes of a state. -/
inductive TickEffect (l : Bool) (s : State) : State → Prop
  | idle : s.phase = .idle → TickEffect l s s
  | startCounts : s.phase = .start → nextCount s < s.startLow.toNat → TickEffect l s (countUp s)
  | startEnds {t : State} : s.phase = .start → s.startLow.toNat ≤ nextCount s → PhaseEntry s t → TickEffect l s t
  | releaseCounts : s.phase = .release → nextCount s < s.release.toNat → TickEffect l s (countUp s)
  | releaseEnds : s.phase = .release → s.release.toNat ≤ nextCount s → TickEffect l s (enterCapture s)
  | captureCounts : s.phase = .capture → nextCount s < s.window.toNat →
      TickEffect l s (countUp (sampleLine l s))
  | captureEnds : s.phase = .capture → s.window.toNat ≤ nextCount s →
      TickEffect l s (endCapture (sampleLine l s))
  | restore : s.phase = .restore → TickEffect l s (tickRestore s)

@[simp] theorem sampleLine_cnt (l : Bool) (s : State) : (sampleLine l s).cnt = s.cnt := by
  unfold sampleLine; split_ifs <;> rfl

@[simp] theorem sampleLine_window (l : Bool) (s : State) : (sampleLine l s).window = s.window := by
  unfold sampleLine; split_ifs <;> rfl

theorem phaseStep_effect (l : Bool) (s : State) : TickEffect l s (phaseStep l s) := by
  cases hp : s.phase
  · rw [phaseStep_idle hp]; exact .idle hp
  · rw [phaseStep_start hp, tickStart]
    split_ifs with h
    · exact .startEnds hp h (enterRelease_entry s)
    · exact .startCounts hp (by omega)
  · rw [phaseStep_release hp, tickRelease]
    split_ifs with h
    · exact .releaseEnds hp h
    · exact .releaseCounts hp (by omega)
  · rw [phaseStep_capture hp, tickCapture, advanceCapture]
    have hn : nextCount (sampleLine l s) = nextCount s := by simp [nextCount]
    rw [hn, sampleLine_window]
    split_ifs with h
    · exact .captureEnds hp h
    · exact .captureCounts hp (by omega)
  · rw [phaseStep_restore hp]; exact .restore hp

/-! ## What no tick touches -/

/-- The fields a tick leaves alone in every phase: the configuration, the error flags, RPTR and the model's
own fields (20_memory.md R72: ticks never change CTRL). -/
def TickFrame (s t : State) : Prop :=
  t.model = s.model ∧ t.csumMode = s.csumMode ∧ t.ie = s.ie ∧ t.startLow = s.startLow ∧ t.release = s.release ∧
  t.window = s.window ∧ t.thresh = s.thresh ∧ t.cmdErr = s.cmdErr ∧ t.wrErr = s.wrErr ∧ t.rdErr = s.rdErr ∧
  t.rptr = s.rptr ∧ t.extraDepth = s.extraDepth ∧ t.edgeEpoch = s.edgeEpoch ∧ t.rdata = s.rdata ∧
  t.events = s.events ∧ t.drawn = s.drawn

theorem sampleLine_frame (l : Bool) (s : State) : TickFrame s (sampleLine l s) := by
  unfold sampleLine; split_ifs <;> simp [TickFrame]

theorem phaseStep_frame (l : Bool) (s : State) : TickFrame s (phaseStep l s) := by
  have hs := sampleLine_frame l s
  have he := phaseStep_effect l s
  generalize phaseStep l s = t at he ⊢
  cases he
  case startEnds h => cases h <;> simp [TickFrame]
  case captureCounts => simpa [TickFrame] using hs
  case captureEnds => simpa [TickFrame] using hs
  all_goals simp [TickFrame, tickRestore]

theorem tick_frame (l : Bool) (s : State) : TickFrame s (tick l s) := by
  simpa [tick, TickFrame] using phaseStep_frame l (clockTick l s)

@[simp] theorem sampleLine_timer (l : Bool) (s : State) : (sampleLine l s).timer = s.timer := by
  unfold sampleLine; split_ifs <;> rfl

@[simp] theorem sampleLine_line (l : Bool) (s : State) : (sampleLine l s).line = s.line := by
  unfold sampleLine; split_ifs <;> rfl

end Sys2Proof.Machine
end

