-- ==== Sys2Proof/Laws/Step.lean ====
section
/-! SUPPORT. What a step can do, said once (00_scope.md R10, 20_memory.md R67, 70_reset_and_hazards.md R250). -/

namespace Sys2Proof.Machine

/-- Taking an event out of the list, or drawing one, touches no component of 10_state.md R20. -/
theorem dropEvent_shape (s : State) :
    (∃ n, dropEvent s = { s with drawn := n }) ∨ ∃ es, dropEvent s = { s with events := es } := by
  unfold dropEvent
  split
  · exact .inl ⟨_, rfl⟩
  · exact .inr ⟨_, rfl⟩

/-- The four things a step can be: a host operation, a tick, a reset, an access to some other place. -/
inductive StepEffect (s : State) : State → Prop
  | host (i : Instr) {t : State} : hostOp (nextEvent s) = some i → exec i (dropEvent s) = .next t → StepEffect s t
  | tick (l : Bool) : nextEvent s = .tick l → StepEffect s (tick l (dropEvent s))
  | reset : nextEvent s = .reset → StepEffect s (resetBlock (dropEvent s))
  | elsewhere (a : BusAccess) : nextEvent s = .bus a → touchesWindow a = false → StepEffect s (dropEvent s)

/-- The inversion of step. -/
theorem step_effect {s t : State} (h : step s = .next t) : StepEffect s t := by
  unfold step takeEvent at h
  split at h
  case h_1 w he => exact .host _ (by rw [he]; rfl) h
  case h_2 a he =>
    unfold runBus at h
    split_ifs at h with h1 h2
    · exact .host _ (by rw [he]; simp [hostOp, h1, h2]) h
    · injection h with h
      subst h
      exact .elsewhere a he (by simpa using h1)
  case h_3 l he => injection h with h; subst h; exact .tick l he
  case h_4 he => injection h with h; subst h; exact .reset he

end Sys2Proof.Machine
end

