-- ==== Sys2Proof/Tests/Slice0.lean ====
section
/-! SUPPORT. Tests of the model and witnesses for the statements. Words come from spec/opcode_table.json and
30_encoding.md, expected values from 95_test_vectors.md (its vectors' names are given) or by hand from the rules
cited; a theorem `witness_…` shows states and operands that meet a statement's hypotheses. -/

open Sys2Proof Sys2Proof.Machine

namespace Sys2Proof.Tests

/-! ## Decoding -/

/-- START written bit by bit from R80 and R83: W = 1, IDX = 00011, CMDWORD = 1. -/
theorem test_decode_start_bits :
    decodeWord 0b10001100000000000000000000000000000001 = .start := by
  decide

/-- RD_TS_DATA bit by bit: W = 0, IDX = 01011, WDATA any (R81). -/
theorem test_decode_pop_bits :
    decodeWord 0b00101111111111111111111111111111111111 = .rdTsData := by
  decide

/-- WR_CTRL bit by bit: W = 1, IDX = 00010, WDATA = 4 (IE). -/
theorem test_decode_ctrl_bits :
    decodeWord 0b10001000000000000000000000000000000100 = .wrCtrl 4 := by
  decide

/-- CMD_RSVD_B31 bit by bit: W = 1, IDX = 00011, CMDWORD[31] = 1. -/
theorem test_decode_reserved_command_bits :
    decodeWord 0b10001110000000000000000000000000000000 = .cmdRsvdB31 0x80000000 := by
  decide

theorem test_decode_reads_1 :
    decodeWord 0x0000000000 = .rdId ∧ decodeWord 0x0100000000 = .rdParam ∧ decodeWord 0x0200000000 = .rdCtrl ∧
    decodeWord 0x0300000000 = .rdCmd ∧ decodeWord 0x0400000000 = .rdStatus ∧
    decodeWord 0x0500000000 = .rdStartLow ∧ decodeWord 0x0600000000 = .rdRelease ∧
    decodeWord 0x0700000000 = .rdWindow ∧ decodeWord 0x0800000000 = .rdThresh ∧
    decodeWord 0x0900000000 = .rdEdgeCount ∧ decodeWord 0x0A00000000 = .rdBitcount := by
  decide

theorem test_decode_reads_2 :
    decodeWord 0x0B00000000 = .rdTsData ∧ decodeWord 0x0C00000000 = .rdFifoLevel ∧
    decodeWord 0x0D00000000 = .rdRawLo ∧ decodeWord 0x0E00000000 = .rdRawHi ∧
    decodeWord 0x0F00000000 = .rdHum ∧ decodeWord 0x1000000000 = .rdTemp ∧ decodeWord 0x1100000000 = .rdTimer ∧
    decodeWord 0x1200000000 = .rdRsvd18To19 18 ∧ decodeWord 0x1400000000 = .rdRsvd20To23 20 ∧
    decodeWord 0x1800000000 = .rdRsvd24To31 24 := by
  decide

theorem test_decode_writes_1 :
    decodeWord 0x208000A500 = .wrId 0x8000A500 ∧ decodeWord 0x218000A501 = .wrParam 0x8000A501 ∧
    decodeWord 0x228000A502 = .wrCtrl 0x8000A502 ∧ decodeWord 0x248000A504 = .wrStatus 0x8000A504 ∧
    decodeWord 0x258000A505 = .wrStartLow 0x8000A505 ∧ decodeWord 0x268000A506 = .wrRelease 0x8000A506 ∧
    decodeWord 0x278000A507 = .wrWindow 0x8000A507 ∧ decodeWord 0x288000A508 = .wrThresh 0x8000A508 ∧
    decodeWord 0x298000A509 = .wrEdgeCount 0x8000A509 ∧ decodeWord 0x2A8000A50A = .wrBitcount 0x8000A50A := by
  decide

theorem test_decode_writes_2 :
    decodeWord 0x2B8000A50B = .wrTsData 0x8000A50B ∧ decodeWord 0x2C8000A50C = .wrFifoLevel 0x8000A50C ∧
    decodeWord 0x2D8000A50D = .wrRawLo 0x8000A50D ∧ decodeWord 0x2E8000A50E = .wrRawHi 0x8000A50E ∧
    decodeWord 0x2F8000A50F = .wrHum 0x8000A50F ∧ decodeWord 0x308000A510 = .wrTemp 0x8000A510 ∧
    decodeWord 0x318000A511 = .wrTimer 0x8000A511 ∧ decodeWord 0x33C0DE0013 = .wrRsvd18To19 19 0xC0DE0013 ∧
    decodeWord 0x37C0DE0017 = .wrRsvd20To23 23 0xC0DE0017 ∧
    decodeWord 0x3FC0DE001F = .wrRsvd24To31 31 0xC0DE001F := by
  decide

theorem test_decode_reserved_commands_1 :
    decodeWord 0x2380000000 = .cmdRsvdB31 0x80000000 ∧ decodeWord 0x23FFFFFFFF = .cmdRsvdB31 0xFFFFFFFF ∧
    decodeWord 0x2340000000 = .cmdRsvdB30 0x40000000 ∧ decodeWord 0x237FFFFFFF = .cmdRsvdB30 0x7FFFFFFF ∧
    decodeWord 0x2320000000 = .cmdRsvdB29 0x20000000 ∧ decodeWord 0x233FFFFFFF = .cmdRsvdB29 0x3FFFFFFF ∧
    decodeWord 0x2310000000 = .cmdRsvdB28 0x10000000 ∧ decodeWord 0x231FFFFFFF = .cmdRsvdB28 0x1FFFFFFF ∧
    decodeWord 0x2308000000 = .cmdRsvdB27 0x8000000 ∧ decodeWord 0x230FFFFFFF = .cmdRsvdB27 0xFFFFFFF ∧
    decodeWord 0x2304000000 = .cmdRsvdB26 0x4000000 ∧ decodeWord 0x2307FFFFFF = .cmdRsvdB26 0x7FFFFFF ∧
    decodeWord 0x2302000000 = .cmdRsvdB25 0x2000000 ∧ decodeWord 0x2303FFFFFF = .cmdRsvdB25 0x3FFFFFF ∧
    decodeWord 0x2301000000 = .cmdRsvdB24 0x1000000 ∧ decodeWord 0x2301FFFFFF = .cmdRsvdB24 0x1FFFFFF ∧
    decodeWord 0x2300800000 = .cmdRsvdB23 0x800000 ∧ decodeWord 0x2300FFFFFF = .cmdRsvdB23 0xFFFFFF ∧
    decodeWord 0x2300400000 = .cmdRsvdB22 0x400000 ∧ decodeWord 0x23007FFFFF = .cmdRsvdB22 0x7FFFFF := by
  decide

theorem test_decode_reserved_commands_2 :
    decodeWord 0x2300200000 = .cmdRsvdB21 0x200000 ∧ decodeWord 0x23003FFFFF = .cmdRsvdB21 0x3FFFFF ∧
    decodeWord 0x2300100000 = .cmdRsvdB20 0x100000 ∧ decodeWord 0x23001FFFFF = .cmdRsvdB20 0x1FFFFF ∧
    decodeWord 0x2300080000 = .cmdRsvdB19 0x80000 ∧ decodeWord 0x23000FFFFF = .cmdRsvdB19 0xFFFFF ∧
    decodeWord 0x2300040000 = .cmdRsvdB18 0x40000 ∧ decodeWord 0x230007FFFF = .cmdRsvdB18 0x7FFFF ∧
    decodeWord 0x2300020000 = .cmdRsvdB17 0x20000 ∧ decodeWord 0x230003FFFF = .cmdRsvdB17 0x3FFFF ∧
    decodeWord 0x2300010000 = .cmdRsvdB16 0x10000 ∧ decodeWord 0x230001FFFF = .cmdRsvdB16 0x1FFFF ∧
    decodeWord 0x2300008000 = .cmdRsvdB15 0x8000 ∧ decodeWord 0x230000FFFF = .cmdRsvdB15 0xFFFF ∧
    decodeWord 0x2300004000 = .cmdRsvdB14 0x4000 ∧ decodeWord 0x2300007FFF = .cmdRsvdB14 0x7FFF ∧
    decodeWord 0x2300002000 = .cmdRsvdB13 0x2000 ∧ decodeWord 0x2300003FFF = .cmdRsvdB13 0x3FFF ∧
    decodeWord 0x2300001000 = .cmdRsvdB12 0x1000 ∧ decodeWord 0x2300001FFF = .cmdRsvdB12 0x1FFF := by
  decide

theorem test_decode_reserved_commands_3 :
    decodeWord 0x2300000800 = .cmdRsvdB11 0x800 ∧ decodeWord 0x2300000FFF = .cmdRsvdB11 0xFFF ∧
    decodeWord 0x2300000400 = .cmdRsvdB10 0x400 ∧ decodeWord 0x23000007FF = .cmdRsvdB10 0x7FF ∧
    decodeWord 0x2300000200 = .cmdRsvdB9 0x200 ∧ decodeWord 0x23000003FF = .cmdRsvdB9 0x3FF ∧
    decodeWord 0x2300000100 = .cmdRsvdB8 0x100 ∧ decodeWord 0x23000001FF = .cmdRsvdB8 0x1FF ∧
    decodeWord 0x2300000080 = .cmdRsvdB7 0x80 ∧ decodeWord 0x23000000FF = .cmdRsvdB7 0xFF ∧
    decodeWord 0x2300000040 = .cmdRsvdB6 0x40 ∧ decodeWord 0x230000007F = .cmdRsvdB6 0x7F ∧
    decodeWord 0x2300000020 = .cmdRsvdB5 0x20 ∧ decodeWord 0x230000003F = .cmdRsvdB5 0x3F ∧
    decodeWord 0x2300000010 = .cmdRsvdB4 0x10 ∧ decodeWord 0x230000001F = .cmdRsvdB4 0x1F ∧
    decodeWord 0x2300000008 = .cmdRsvdB3 0x8 ∧ decodeWord 0x230000000F = .cmdRsvdB3 0xF ∧
    decodeWord 0x2300000006 = .cmdRsvd6To7 0x6 ∧ decodeWord 0x2300000007 = .cmdRsvd6To7 0x7 := by
  decide

theorem test_decode_commands :
    decodeWord 0x2300000000 = .nop ∧ decodeWord 0x2300000001 = .start ∧ decodeWord 0x2300000002 = .decode ∧
    decodeWord 0x2300000003 = .interpret ∧ decodeWord 0x2300000004 = .clear ∧
    decodeWord 0x2300000005 = .cmdRsvd5 := by
  decide

/-- Bytes that are no access word are rejected by name; the layout is the model's (log 10). -/
theorem test_decode_bytes :
    decodeBytes [1, 0, 0, 0, 0x23] = .ok .start ∧ decodeBytes [1, 0, 0, 0, 0x63] = .error .bitsAbove37 ∧
    decodeBytes [1, 0, 0, 0x23] = .error .wrongLength ∧ decodeBytes [] = .error .wrongLength := by
  decide

theorem test_decodeTableWord :
    decodeTableWord 40 0x2300000001 = some .start ∧ decodeTableWord 40 0x2D00850000 = some (.wrRawLo 0x00850000) ∧
    decodeTableWord 40 0x6300000001 = none := by
  decide

/-! ## Well-formedness: an ill-formed term for each check -/

theorem test_ill_formed_indices :
    wellFormed (.rdRsvd18To19 17) = false ∧ wellFormed (.wrRsvd18To19 17 0) = false ∧
    wellFormed (.rdRsvd18To19 20) = false ∧ wellFormed (.wrRsvd18To19 20 0) = false ∧
    wellFormed (.rdRsvd20To23 19) = false ∧ wellFormed (.wrRsvd20To23 19 0) = false ∧
    wellFormed (.rdRsvd20To23 24) = false ∧ wellFormed (.wrRsvd20To23 24 0) = false ∧
    wellFormed (.rdRsvd24To31 23) = false ∧ wellFormed (.wrRsvd24To31 23 0) = false := by
  decide

theorem test_ill_formed_commands_1 :
    wellFormed (.cmdRsvdB31 0x7FFFFFFF) = false ∧ wellFormed (.cmdRsvdB30 0x3FFFFFFF) = false ∧
    wellFormed (.cmdRsvdB30 0x80000000) = false ∧ wellFormed (.cmdRsvdB29 0x1FFFFFFF) = false ∧
    wellFormed (.cmdRsvdB29 0x40000000) = false ∧ wellFormed (.cmdRsvdB28 0xFFFFFFF) = false ∧
    wellFormed (.cmdRsvdB28 0x20000000) = false ∧ wellFormed (.cmdRsvdB27 0x7FFFFFF) = false ∧
    wellFormed (.cmdRsvdB27 0x10000000) = false ∧ wellFormed (.cmdRsvdB26 0x3FFFFFF) = false ∧
    wellFormed (.cmdRsvdB26 0x8000000) = false ∧ wellFormed (.cmdRsvdB25 0x1FFFFFF) = false ∧
    wellFormed (.cmdRsvdB25 0x4000000) = false ∧ wellFormed (.cmdRsvdB24 0xFFFFFF) = false ∧
    wellFormed (.cmdRsvdB24 0x2000000) = false ∧ wellFormed (.cmdRsvdB23 0x7FFFFF) = false ∧
    wellFormed (.cmdRsvdB23 0x1000000) = false ∧ wellFormed (.cmdRsvdB22 0x3FFFFF) = false ∧
    wellFormed (.cmdRsvdB22 0x800000) = false ∧ wellFormed (.cmdRsvdB21 0x1FFFFF) = false := by
  decide

theorem test_ill_formed_commands_2 :
    wellFormed (.cmdRsvdB21 0x400000) = false ∧ wellFormed (.cmdRsvdB20 0xFFFFF) = false ∧
    wellFormed (.cmdRsvdB20 0x200000) = false ∧ wellFormed (.cmdRsvdB19 0x7FFFF) = false ∧
    wellFormed (.cmdRsvdB19 0x100000) = false ∧ wellFormed (.cmdRsvdB18 0x3FFFF) = false ∧
    wellFormed (.cmdRsvdB18 0x80000) = false ∧ wellFormed (.cmdRsvdB17 0x1FFFF) = false ∧
    wellFormed (.cmdRsvdB17 0x40000) = false ∧ wellFormed (.cmdRsvdB16 0xFFFF) = false ∧
    wellFormed (.cmdRsvdB16 0x20000) = false ∧ wellFormed (.cmdRsvdB15 0x7FFF) = false ∧
    wellFormed (.cmdRsvdB15 0x10000) = false ∧ wellFormed (.cmdRsvdB14 0x3FFF) = false ∧
    wellFormed (.cmdRsvdB14 0x8000) = false ∧ wellFormed (.cmdRsvdB13 0x1FFF) = false ∧
    wellFormed (.cmdRsvdB13 0x4000) = false ∧ wellFormed (.cmdRsvdB12 0xFFF) = false ∧
    wellFormed (.cmdRsvdB12 0x2000) = false ∧ wellFormed (.cmdRsvdB11 0x7FF) = false := by
  decide

theorem test_ill_formed_commands_3 :
    wellFormed (.cmdRsvdB11 0x1000) = false ∧ wellFormed (.cmdRsvdB10 0x3FF) = false ∧
    wellFormed (.cmdRsvdB10 0x800) = false ∧ wellFormed (.cmdRsvdB9 0x1FF) = false ∧
    wellFormed (.cmdRsvdB9 0x400) = false ∧ wellFormed (.cmdRsvdB8 0xFF) = false ∧
    wellFormed (.cmdRsvdB8 0x200) = false ∧ wellFormed (.cmdRsvdB7 0x7F) = false ∧
    wellFormed (.cmdRsvdB7 0x100) = false ∧ wellFormed (.cmdRsvdB6 0x3F) = false ∧
    wellFormed (.cmdRsvdB6 0x80) = false ∧ wellFormed (.cmdRsvdB5 0x1F) = false ∧
    wellFormed (.cmdRsvdB5 0x40) = false ∧ wellFormed (.cmdRsvdB4 0xF) = false ∧
    wellFormed (.cmdRsvdB4 0x20) = false ∧ wellFormed (.cmdRsvdB3 0x7) = false ∧
    wellFormed (.cmdRsvdB3 0x10) = false ∧ wellFormed (.cmdRsvd6To7 0x5) = false ∧
    wellFormed (.cmdRsvd6To7 0x8) = false := by
  decide

/-! ## Small states -/

/-- The state an answer gives. -/
def nextOf : Answer → Option State
  | .next s => some s
  | .fault _ => none
  | .refused _ => none

/-- The state after one operation, the start state where it stops. -/
def after (i : Instr) (s : State) : State := (nextOf (exec i s)).getD s

/-- The word a read returns. -/
def readOf (i : Instr) (s : State) : Option Word := (nextOf (exec i s)).bind (·.rdata)

/-- Timestamps as EDGE lists them, from index `i`. -/
def listed (i : Nat) : List Half → List (Nat × Half)
  | [] => []
  | t :: ts => (i, t) :: listed (i + 1) ts

/-- The state in which a trace has been pushed. -/
def withTrace (ts : List Half) (s : State) : State :=
  { s with edge := listed 0 ts, fill := ts.length, edgeCount := BitVec.ofNat 16 ts.length }

/-- The trace T41 of 95_test_vectors.md. -/
def traceT41 : List Half :=
  [200, 278, 356, 434, 512, 590, 668, 746, 866, 986, 1064, 1142, 1262, 1340, 1418, 1496, 1574, 1652, 1730, 1808,
    1886, 1964, 2042, 2120, 2198, 2318, 2438, 2516, 2594, 2714, 2792, 2870, 2990, 3068, 3188, 3266, 3386, 3506, 3584,
    3704, 3782]

/-- The trace T42-11 of 95_test_vectors.md. -/
def traceT42dht11 : List Half :=
  [40, 200, 278, 356, 476, 554, 674, 794, 872, 992, 1070, 1148, 1226, 1304, 1382, 1460, 1538, 1616, 1694, 1772, 1850,
    1970, 2090, 2168, 2288, 2366, 2444, 2522, 2600, 2678, 2756, 2834, 2912, 2990, 3068, 3188, 3266, 3344, 3422, 3542,
    3662, 3782]

/-- The trace G(g) of 95_test_vectors.md: a first interval of `g`, then 39 intervals of 78. -/
def traceG (g : Half) : List Half := 0 :: (List.range 40).map fun k => g + 78 * BitVec.ofNat 16 k

/-- An idle DHT22 block with T41 pushed, the interrupt enabled and a larger START_LOW. -/
def traced : State := withTrace traceT41 { State.reset with model := .dht22, ie := true, startLow := 18001 }

/-- An idle block with a full FIFO of FIFO_DEPTH = 42. -/
def full : State := withTrace traceT42dht11 { State.reset with extraDepth := 0 }

/-- A block in RELEASE (10_state.md R30) at CNT = 0. -/
def inRelease : State := { traced with phase := .release, oe := true, fill := 0, edgeCount := 0 }

/-- A block in CAPTURE at its first sample, WINDOW = 3. -/
def inCapture : State := { State.reset with phase := .capture, window := 3 }

/-- A block in RESTORE with a captured trace. -/
def inRestore : State := { traced with phase := .restore }

/-- A block in START, right after an accepted START. -/
def inStart : State := acceptStart traced

/-- An idle block with a given frame, model and checksum mode. -/
def framed (m : SensorModel) (c : CsumMode) (f : RawFrame) : State :=
  { State.reset with model := m, csumMode := c, raw := f }

/-! ## One step each -/

/-- V-A1. -/
theorem test_reset_reads :
    readOf .rdId State.reset = some 0x44485453 ∧ readOf .rdParam State.reset = some 0x00000140 ∧
    readOf .rdCtrl State.reset = some 0 ∧ readOf .rdStatus State.reset = some 0x00050000 ∧
    readOf .rdStartLow State.reset = some 0x00004650 ∧ readOf .rdRelease State.reset = some 1 ∧
    readOf .rdWindow State.reset = some 0x00001770 ∧ readOf .rdThresh State.reset = some 0x64 := by
  decide

/-- V-A2, V-A3, V-A4, V-A5. -/
theorem test_config_writes :
    readOf .rdCtrl (after (.wrCtrl 0xFFFFFFFF) State.reset) = some 7 ∧
    readOf .rdRelease (after (.wrRelease 0x1FF) State.reset) = some 0xFF ∧
    readOf .rdWindow (after (.wrWindow 0x12345) State.reset) = some 0x2345 ∧
    readOf .rdThresh (after (.wrThresh 0xFFFF0000) State.reset) = some 0 := by
  decide

/-- V-L2, V-L4, V-L5, V-L6. -/
theorem test_start_low :
    (after (.wrStartLow 17999) State.reset).startLow = 18000 ∧
    (after (.wrStartLow 18001) State.reset).startLow = 18001 ∧
    (after (.wrStartLow 0xFFFF) State.reset).startLow = 65535 ∧
    (after (.wrStartLow 0x12345) State.reset).startLow = 18000 := by
  decide

/-- V-A7. -/
theorem test_raw_writes :
    readOf .rdRawLo (after (.wrRawLo 0x12345678) State.reset) = some 0x12345678 ∧
    readOf .rdRawHi (after (.wrRawHi 0xABCD) (after (.wrRawLo 0x12345678) State.reset)) = some 0x14CD := by
  decide

/-- V-A8, on a state with the five flags set. -/
theorem test_status_w1c :
    (after (.wrStatus 0x7A)
      { State.reset with done := true, cmdErr := true, wrErr := true, rdErr := true, ovf := true }).statusWord
      = 0x00050000 := by
  decide

/-- V-A10, V-A11, V-A12. -/
theorem test_reserved_commands :
    (after (.cmdRsvd6To7 7) State.reset).statusWord = 0x00050008 ∧
    (after (.cmdRsvdB31 0xFFFFFFFF) State.reset).statusWord = 0x00050008 ∧ after .nop State.reset = State.reset := by
  decide

/-- V-F1. -/
theorem test_pop_empty :
    readOf .rdTsData State.reset = some 0 ∧ (after .rdTsData State.reset).statusWord = 0x00050020 := by
  decide

/-- V-F2. -/
theorem test_push_and_pop :
    readOf .rdFifoLevel (after (.wrTsData 0x12345) State.reset) = some 1 ∧
    readOf .rdTsData (after (.wrTsData 0x12345) State.reset) = some 9029 := by
  decide

/-- The 43rd push of V-F4: S stays 42, N goes on, OVF. -/
theorem test_push_full :
    (after (.wrTsData 4200) full).fill = 42 ∧ (after (.wrTsData 4200) full).edgeCount = 43 ∧
    (after (.wrTsData 4200) full).ovf = true := by
  decide

/-- V-F5. -/
theorem test_start : (after .start State.reset).statusWord = 0x00031001 := by
  decide

/-- V-F7. -/
theorem test_timer_wraps : (tick true { State.reset with timer := 0xFFFFFFFF }).timer = 0 := by
  decide

/-- V-F10: two samples of a capture, the first a falling edge at 0, the second none (R149). -/
theorem test_capture_sample :
    (tick false inCapture).edge = [(0, 0)] ∧ (tick false (tick false inCapture)).fill = 1 ∧
    (tick false inCapture).cnt = 1 := by
  decide

/-- V-C1. -/
theorem test_decode_empty : (after .decode State.reset).statusWord = 0x00050202 := by
  decide

/-- V-C5: T41 as a DHT22, with the interrupt on (0x00050186). -/
theorem test_decode_t41 :
    (after .decode traced).raw = ⟨0x01, 0x90, 0x00, 0xC9, 0x5A⟩ ∧ (after .decode traced).hum = 4000 ∧
    (after .decode traced).temp = 2010 ∧ (after .decode traced).statusWord = 0x00050186 := by
  decide

/-- E2 and V-C6's edge count: T42-11. -/
theorem test_decode_t42_dht11 :
    (after .decode full).raw = ⟨0x2D, 0x00, 0x1A, 0x00, 0x47⟩ ∧ (after .decode full).hum = 4500 ∧
    (after .decode full).temp = 2600 := by
  decide

/-- V-T1, V-T2 (E4). -/
theorem test_threshold_boundary :
    (after .decode (withTrace (traceG 100) State.reset)).raw.b0 = 0x80 ∧
    (after .decode (withTrace (traceG 99) State.reset)).raw.b0 = 0x00 := by
  decide

/-- E3: −128.00 °C. -/
theorem test_interpret_sign :
    (after .interpret (framed .dht22 .andTest ⟨0, 0, 0x85, 0, 0x85⟩)).temp = 0xFFFFCE00 ∧
    (after .interpret (framed .dht22 .andTest ⟨0, 0, 0x85, 0, 0x85⟩)).result = .success := by
  decide

/-- V-S2: [0x80, 0x7F, 0, 0, 0x0F] has sum8 = 0xFF, which passes the AND test and fails the MOD test (R191, R192). -/
theorem test_checksum_modes :
    (after .interpret (framed .dht11 .andTest ⟨0x80, 0x7F, 0, 0, 0x0F⟩)).result = .success ∧
    (after .interpret (framed .dht11 .modTest ⟨0x80, 0x7F, 0, 0, 0x0F⟩)).result = .checksumMismatch := by
  decide

/-- CLEAR on T41's results (R138). -/
theorem test_clear :
    (after .clear (after .decode traced)).statusWord = 0x00050000 ∧ (after .clear traced).edgeCount = 0 := by
  decide

/-- A write and a command while BUSY (R100, R122). -/
theorem test_busy_rejects :
    after (.wrThresh 7) inStart = { inStart with wrErr := true } ∧
    after .clear inStart = { inStart with cmdErr := true } := by
  decide

/-- The fetch: the very next step runs the access. -/
theorem test_step_runs_the_fetched_access :
    (nextOf (step (State.reset.withFetchWord 40 0x2300000001))).map (·.statusWord) = some 0x00031001 ∧
    (nextOf (step (traced.withFetchWord 40 0x0400000000))).bind (·.rdata) = some 0x00050000 := by
  decide

/-! ## Witnesses: encoding and steps -/

theorem witness_DecodeOfEncodeIsTheOperation :
    wellFormed (.wrRsvd24To31 31 0xFFFFFFFF) = true ∧ wellFormed (.cmdRsvdB31 0xFFFFFFFF) = true ∧
    wellFormed (.cmdRsvd6To7 6) = true ∧ wellFormed .rdId = true := by
  decide

theorem witness_EncodeOfDecodeIsTheAccessWord :
    (0x2300000000 : AccessWord).getLsbD 37 = true ∧ (0x1FFFFFFFFF : AccessWord).getLsbD 37 = false := by
  decide

/-- One state for each clause; the last word is the encoding of a well-formed operation. -/
theorem witness_StepRunsTheDecodedOperation :
    ({ traced with events := [.port 0x2300000001] } : State).events = .port 0x2300000001 :: [] ∧
    wellFormed .start = true ∧ (0x2300000001 : AccessWord) = encodeWord .start ∧
    ({ traced with events := [.tick false] } : State).events = .tick false :: [] ∧
    ({ traced with events := [.reset] } : State).events = .reset :: [] ∧ traced.events = [] := by
  decide

/-- An access to the last word of the window, and one right behind the window. -/
theorem witness_BusAccessReachesItsRegister :
    (∃ s : State, s.events = .bus ⟨Config.base + 4 * (31 : Index).toNat, .word, true, 7⟩ :: []) ∧
    ∃ (s : State) (a : BusAccess), s.events = .bus a :: [] ∧
      (a.addr + a.size.bytes ≤ Config.base ∨ Config.base + 128 ≤ a.addr) :=
  ⟨⟨{ traced with events := [.bus ⟨Config.base + 4 * 31, .word, true, 7⟩] }, rfl⟩,
    { traced with events := [.bus ⟨Config.base + 128, .byte, true, 7⟩] }, ⟨Config.base + 128, .byte, true, 7⟩, rfl,
    .inr (Nat.le_refl _)⟩

/-- A byte access to the last byte of the window, and an access at the port. -/
theorem witness_OnlyUndefinedAccessesAreRefused :
    (∃ (s : State) (a : BusAccess), nextEvent s = .bus a ∧ Config.base < a.addr + a.size.bytes ∧
      a.addr < Config.base + 128 ∧ ¬ (a.size = .word ∧ a.addr % 4 = 0)) ∧
    ∃ s : State, ¬ ∃ a, nextEvent s = .bus a ∧ Config.base < a.addr + a.size.bytes ∧ a.addr < Config.base + 128 ∧
      ¬ (a.size = .word ∧ a.addr % 4 = 0) := by
  constructor
  · refine ⟨{ traced with events := [.bus ⟨Config.base + 127, .byte, false, 0⟩] },
      ⟨Config.base + 127, .byte, false, 0⟩, rfl, ?_, ?_, ?_⟩
    · simp only [AccessSize.bytes]; omega
    · exact Nat.add_lt_add_left (by decide) _
    · exact fun h => absurd h.1 (by decide)
  · refine ⟨{ traced with events := [.port 0] }, ?_⟩
    rintro ⟨a, h, -⟩
    exact Event.noConfusion h

/-- Both boundary indices, as a read and as a write. -/
theorem witness_ReservedIndicesOverTheBus :
    ∀ k ∈ [18, 31], 18 ≤ k ∧ k ≤ 31 ∧
      (∃ s : State, s.events = .bus ⟨Config.base + 4 * k, .word, false, 5⟩ :: []) ∧
      ∃ s : State, s.events = .bus ⟨Config.base + 4 * k, .word, true, 5⟩ :: [] := by
  intro k hk
  refine ⟨?_, ?_, ⟨{ traced with events := _ }, rfl⟩, ⟨{ traced with events := _ }, rfl⟩⟩ <;>
    simp only [List.mem_cons, List.not_mem_nil, or_false] at hk <;> omega

/-- A reset in the middle of a transaction. -/
theorem witness_ResetGivesTheResetValues :
    ({ inStart with events := [.reset] } : State).events = .reset :: [] := by
  decide

/-! ## Witnesses: invariants -/

theorem traced_inv : traced.Inv := by
  constructor <;> decide

/-- In CAPTURE with one edge at 5, the line high again. -/
def captured : State :=
  { withTrace [5] State.reset with phase := .capture, cnt := 9, prev := true }

theorem captured_inv : captured.Inv := by
  constructor <;> decide

theorem spaced_of_bounded {s : State}
    (h : ∀ i, i < s.fill - 1 → (s.edgeAt i).toNat + 2 ≤ (s.edgeAt (i + 1)).toNat) :
    s.phase = .capture ∨ s.phase = .restore → ∀ i, i + 1 < s.fill →
      (s.edgeAt i).toNat + 2 ≤ (s.edgeAt (i + 1)).toNat :=
  fun _ i hi => h i (by omega)

theorem restored_traceOrdered : inRestore.TraceOrdered :=
  ⟨by decide, spaced_of_bounded (by decide), by decide, by decide, by decide, by decide⟩

/-- A tick keeps counting in CAPTURE. -/
theorem witness_StepKeepsTheInvariant :
    ∃ s t : State, s.Inv ∧ step s = .next t ∧ s.phase = .capture :=
  ⟨{ captured with events := [.tick false] }, _, by constructor <;> decide, rfl, rfl⟩

theorem witness_StepKeepsTheTraceOrdered :
    ∃ s t : State, s.TraceOrdered ∧ step s = .next t ∧ s.phase = .capture ∧ t.fill = 2 :=
  ⟨{ captured with events := [.tick false] }, _,
    ⟨by decide, spaced_of_bounded (by decide), by decide, by decide, by decide, by decide⟩, rfl, rfl, rfl⟩

/-- A block whose decode failed, at its next tick. -/
theorem witness_FailedFramesStayZero :
    ∃ s t : State, s.FailedFrameZero ∧ s.result = .noResponse ∧ step s = .next t ∧
      ∀ w, hostOp (nextEvent s) ≠ some (.wrRawLo w) ∧ hostOp (nextEvent s) ≠ some (.wrRawHi w) :=
  ⟨{ State.reset with result := .noResponse, events := [.tick true] }, _, fun _ => rfl, rfl, rfl,
    fun _ => ⟨nofun, nofun⟩⟩

/-! ## Witnesses: reads and writes -/

/-- The conditional clauses: depth 64, the invariant, and a result that is not SUCCESS. -/
theorem witness_reads :
    State.reset.fifoDepth = 64 ∧ traced.Inv ∧ traced.result ≠ .success :=
  ⟨by decide, traced_inv, by decide⟩

theorem witness_ReadsButThePopAreRepeatable :
    (encodeWord (.rdRsvd24To31 31)).getLsbD 37 = false ∧ (.rdRsvd24To31 31 : Instr) ≠ .rdTsData := by
  decide

/-- An entry to pop, the last one; and none. -/
theorem witness_PopReturnsTheNextEntry :
    ({ traced with rptr := 40 } : State).rptr < ({ traced with rptr := 40 } : State).fill ∧
    ({ traced with rptr := 41 } : State).fill ≤ ({ traced with rptr := 41 } : State).rptr := by
  decide

/-- The hypotheses on PHASE of the writes, the commands and the decoder: an idle and a busy block. -/
theorem witness_idle_and_busy : traced.phase = .idle ∧ inStart.phase ≠ .idle := by
  decide

/-- WR_CTRL enabling the interrupt with DONE already 1. -/
theorem witness_WrCtrlStoresItsThreeBits :
    ({ traced with ie := false, done := true } : State).phase = .idle ∧
    ({ traced with ie := false, done := true } : State).done = true ∧ (4 : Word).getLsbD 2 = true := by
  decide

/-- A write of STATUS that clears DONE while IRQ is 1. -/
theorem witness_WrStatusClearsTheWrittenFlags :
    ({ traced with done := true } : State).irq = true ∧ (2 : Word).getLsbD 1 = true := by
  decide

/-- A push with room for one more entry, a push on a full FIFO, and a saturated count. -/
theorem witness_PushAppendsOneTimestamp :
    traced.phase = .idle ∧ ({ traced with fill := 63 } : State).fill < ({ traced with fill := 63 } : State).fifoDepth ∧
    full.phase = .idle ∧ full.fifoDepth ≤ full.fill ∧ full.Inv ∧
    ({ full with edgeCount := 65535 } : State).fifoDepth ≤ ({ full with edgeCount := 65535 } : State).fill :=
  ⟨by decide, by decide, by decide, by decide, by constructor <;> decide, by decide⟩

/-! ## Witnesses: ticks -/

/-- A start pulse that goes on, one at its last tick into RELEASE, and one into CAPTURE. -/
theorem witness_StartTick :
    inStart.phase = .start ∧ inStart.cnt.toNat + 1 < inStart.startLow.toNat ∧
    inStart.startLow.toNat ≤ ({ inStart with cnt := 18000 } : State).cnt.toNat + 1 ∧ inStart.release ≠ 0 ∧
    ({ inStart with cnt := 18000, release := 0 } : State).release = 0 := by
  decide

/-- A release that goes on (RELEASE = 2), and one at its last tick. -/
theorem witness_ReleaseTick :
    inRelease.phase = .release ∧
    ({ inRelease with release := 2 } : State).cnt.toNat + 1 < ({ inRelease with release := 2 } : State).release.toNat ∧
    inRelease.release.toNat ≤ inRelease.cnt.toNat + 1 := by
  decide

/-- A sample before the last, the last sample, a fall with room, a fall on a full FIFO, no fall. -/
theorem witness_CaptureTick :
    inCapture.phase = .capture ∧ inCapture.cnt.toNat + 1 < inCapture.window.toNat ∧
    inCapture.window.toNat ≤ ({ inCapture with cnt := 2 } : State).cnt.toNat + 1 ∧
    (inCapture.prev = true ∧ (false : Bool) = false) ∧ ¬ (inCapture.prev = true ∧ (true : Bool) = false) ∧
    inCapture.fill < inCapture.fifoDepth ∧
    ({ full with phase := .capture } : State).fifoDepth ≤ ({ full with phase := .capture } : State).fill := by
  decide

theorem witness_RestoreTickDecodes : inRestore.phase = .restore := by
  decide

/-- Line levels for a whole transaction of `traced`: the window all high, all low, or with one fall. -/
def levels (window : List Bool) : List Bool := List.replicate 18002 true ++ window ++ [true]

theorem levels_length (window : List Bool) (h : window.length = 6000) :
    (levels window).length = traced.ticksToRestore + 1 := by
  simp only [levels, List.length_append, List.length_replicate, h]
  rfl

theorem levels_window (window : List Bool) (h : window.length = 6000) :
    traced.windowLevels (levels window) = window := by
  have h1 : traced.startLow.toNat + traced.release.toNat = (List.replicate 18002 true).length := by
    rw [List.length_replicate]; rfl
  have h2 : traced.window.toNat = window.length := by rw [h]; rfl
  rw [State.windowLevels, h1, h2, levels, List.append_assoc, List.drop_left, List.take_left]

/-- START on an idle block, at both ends of the timeline and behind it. -/
theorem witness_TransactionTimeline :
    traced.Inv ∧ traced.phase = .idle ∧ exec .start traced = .next inStart ∧
    ([] : List Bool).length ≤ traced.ticksToRestore ∧
    traced.ticksToRestore < (levels (List.replicate 6000 true)).length :=
  ⟨traced_inv, rfl, rfl, by decide, by rw [levels_length _ List.length_replicate]; omega⟩

/-- A tick, a rejected write, a status clear and a read while BUSY. -/
theorem witness_TimelineHoldsUnderAnyHostAccess :
    ∃ (es : List Event) (v : State), es = [.tick true, .port 0x2800000007, .port 0x240000007A, .port 0x0400000000] ∧
      traced.Inv ∧ traced.phase = .idle ∧ exec .start traced = .next inStart ∧ .reset ∉ es ∧
      Sys2Proof.core.run es.length { inStart with events := es } = .next v ∧
      es.countP isTick ≤ traced.ticksToRestore :=
  ⟨_, _, rfl, traced_inv, rfl, rfl, by decide, rfl, by decide⟩

theorem witness_CaptureRecordsTheFallingEdges :
    inCapture.phase = .capture ∧ inCapture.cnt = 0 ∧ inCapture.prev = true ∧ inCapture.fill = 0 ∧
    inCapture.edgeCount = 0 ∧ inCapture.ovf = false ∧ [false, true, false].length ≤ inCapture.window.toNat ∧
    0 < inCapture.window.toNat := by
  decide

/-- A silent line and a line held low. -/
theorem witness_SilentAndStuckLines :
    traced.Inv ∧ traced.phase = .idle ∧ exec .start traced = .next inStart ∧
    (levels (List.replicate 6000 true)).length = traced.ticksToRestore + 1 ∧
    traced.windowLevels (levels (List.replicate 6000 true)) = List.replicate traced.window.toNat true ∧
    0 < traced.window.toNat ∧ (levels (List.replicate 6000 false)).length = traced.ticksToRestore + 1 ∧
    traced.windowLevels (levels (List.replicate 6000 false)) = List.replicate traced.window.toNat false :=
  ⟨traced_inv, rfl, rfl, levels_length _ List.length_replicate, levels_window _ List.length_replicate, by decide,
    levels_length _ List.length_replicate, levels_window _ List.length_replicate⟩

/-- A window with `n` falls: the level goes low and high again `n` times. -/
def fallingWindow (n : Nat) : List Bool :=
  (List.replicate n [false, true]).flatten ++ List.replicate (6000 - 2 * n) true

/-- Any number of falls that fits the window, among them 0, 41, 42 and the numbers next to them. -/
theorem witness_TransactionReportsItsEdgeCount :
    traced.Inv ∧ traced.phase = .idle ∧ exec .start traced = .next inStart ∧
    ∀ n, n ≤ 3000 → (levels (fallingWindow n)).length = traced.ticksToRestore + 1 ∧
      traced.windowLevels (levels (fallingWindow n)) = fallingWindow n := by
  refine ⟨traced_inv, rfl, rfl, fun n hn => ?_⟩
  have h : (fallingWindow n).length = 6000 := by
    simp only [fallingWindow, List.length_append, List.length_flatten, List.map_replicate, List.sum_replicate,
      List.length_replicate, List.length_cons, List.length_nil, smul_eq_mul]
    omega
  exact ⟨levels_length _ h, levels_window _ h⟩

/-- The falls of a short window: the first level is compared with 1 (R148). -/
theorem test_falling_edges :
    fallingEdges [false, false, true, false, true] = [0, 3] ∧ fallingEdges [true, true] = [] := by
  decide

/-! ## Witnesses: decoder and interpreter -/

theorem witness_DecodeOfAnEmptyTrace : State.reset.phase = .idle ∧ State.reset.edgeCount = 0 := by
  decide

/-- One, forty and forty-three edges. -/
theorem witness_DecodeOfAWrongEdgeCount :
    ∀ n ∈ [1, 40, 43], (withTrace (traceT41.take n) State.reset).phase = .idle ∧
      1 ≤ ({ State.reset with edgeCount := BitVec.ofNat 16 n } : State).edgeCount.toNat ∧
      ({ State.reset with edgeCount := BitVec.ofNat 16 n } : State).edgeCount.toNat ≠ 41 ∧
      ({ State.reset with edgeCount := BitVec.ofNat 16 n } : State).edgeCount.toNat ≠ 42 := by
  decide

/-- Both edge counts; the first and the last bit. -/
theorem witness_DecodePacksTheThresholdedIntervals :
    traced.phase = .idle ∧ traced.edgeCount.toNat = 41 ∧ full.phase = .idle ∧ full.edgeCount.toNat = 42 ∧
    0 < 40 ∧ 39 < 40 := by
  decide

/-- T42-11 and the 41 timestamps behind its leading edge. -/
theorem witness_FortyTwoEdgesDecodeAsFortyOne :
    ∃ s s' : State, s.phase = .idle ∧ s'.phase = .idle ∧ s.edgeCount = 42 ∧ s'.edgeCount = 41 ∧
      s.thresh = s'.thresh ∧ s.model = s'.model ∧ s.csumMode = s'.csumMode ∧
      ∀ i, i ≤ 40 → s.edgeAt (i + 1) = s'.edgeAt i :=
  ⟨full, withTrace (traceT42dht11.drop 1) State.reset, rfl, rfl, rfl, rfl, rfl, rfl, rfl, by decide⟩

/-- A pop behind a DECODE. -/
theorem witness_DecodeIsIdempotent :
    traced.phase = .idle ∧ ∃ t p, exec .decode traced = .next t ∧ exec .rdTsData t = .next p :=
  ⟨rfl, _, _, rfl, rfl⟩

/-- A frame that fails either test (R191, R192): sum8 = 0x5B against 0xA4. -/
theorem witness_InterpretOfAFailedChecksum :
    ∀ m, (framed .dht11 m ⟨0x5B, 0, 0, 0, 0xA4⟩).phase = .idle ∧
      (((framed .dht11 .andTest ⟨0x5B, 0, 0, 0, 0xA4⟩).raw.fullSum &&&
          (framed .dht11 .andTest ⟨0x5B, 0, 0, 0, 0xA4⟩).raw.b4.toNat) ≠
        (framed .dht11 .andTest ⟨0x5B, 0, 0, 0, 0xA4⟩).raw.b4.toNat) ∧
      (framed .dht11 .modTest ⟨0x5B, 0, 0, 0, 0xA4⟩).raw.fullSum % 256 ≠
        (framed .dht11 .modTest ⟨0x5B, 0, 0, 0, 0xA4⟩).raw.b4.toNat := by
  intro m
  cases m <;> decide

/-- A frame that passes either test, with byte 2's high bit set, as either model: the largest bytes. -/
theorem witness_InterpretAsEitherModel :
    ∀ s ∈ [framed .dht11 .andTest ⟨0xFF, 0xFF, 0xFF, 0xFF, 0xFC⟩, framed .dht11 .modTest ⟨0xFF, 0xFF, 0xFF, 0xFF, 0xFC⟩,
        framed .dht22 .andTest ⟨0xFF, 0xFF, 0xFF, 0xFF, 0xFC⟩, framed .dht22 .modTest ⟨0xFF, 0xFF, 0xFF, 0xFF, 0xFC⟩],
      s.phase = .idle ∧ (s.model = .dht11 ∨ s.model = .dht22) ∧
      (s.csumMode = .andTest ∧ s.raw.fullSum &&& s.raw.b4.toNat = s.raw.b4.toNat ∨
        s.csumMode = .modTest ∧ s.raw.fullSum % 256 = s.raw.b4.toNat) := by
  decide

/-- A successful INTERPRET as either model. -/
theorem witness_InterpretedValuesStayInRange :
    ∀ m : SensorModel, ∃ s t : State, s.phase = .idle ∧ exec .interpret s = .next t ∧ t.result = .success ∧
      s.model = m := by
  intro m
  cases m
  · exact ⟨framed .dht11 .andTest ⟨0xFF, 0xFF, 0xFF, 0xFF, 0xFC⟩, _, rfl, rfl, by decide, rfl⟩
  · exact ⟨framed .dht22 .andTest ⟨0xFF, 0xFF, 0xFF, 0xFF, 0xFC⟩, _, rfl, rfl, by decide, rfl⟩

/-- A frame that passes the MOD test; one with checksum byte 0; one with sum8 = 0xFF; two frames with equal sum8 and
checksum byte that are no permutation of each other; a permutation. -/
theorem witness_ChecksumTestProperties :
    csumOk .modTest ⟨1, 2, 3, 4, 10⟩ = true ∧ (⟨1, 2, 3, 4, 0⟩ : RawFrame).b4 = 0 ∧
    (⟨0x80, 0x7F, 0, 0, 9⟩ : RawFrame).sum8 = 0xFF ∧
    (⟨0xFF, 11, 0, 0, 7⟩ : RawFrame).sum8 = (⟨1, 2, 3, 4, 7⟩ : RawFrame).sum8 ∧
    (⟨0xFF, 11, 0, 0, 7⟩ : RawFrame).b4 = (⟨1, 2, 3, 4, 7⟩ : RawFrame).b4 ∧
    [(4 : Byte), 3, 2, 1].Perm [1, 2, 3, 4] := by
  decide

/-! ## Witnesses: the whole block -/

/-- Every flag set, and a tick that keeps them. -/
theorem witness_StickyFlagsAreSticky :
    ∃ s t : State, step s = .next t ∧ s.cmdErr = true ∧ s.wrErr = true ∧ s.rdErr = true ∧ s.ovf = true ∧
      s.done = true :=
  ⟨{ traced with cmdErr := true, wrErr := true, rdErr := true, ovf := true, done := true, events := [.tick true] }, _,
    rfl, rfl, rfl, rfl, rfl, rfl⟩

/-- An access that sets each flag, and ticks that set OVF and DONE. -/
theorem witness_OneErrorFlagPerAccess :
    (∃ t, exec .cmdRsvd5 traced = .next t ∧ t.cmdErr = true) ∧
    (∃ t, exec (.wrThresh 7) inStart = .next t ∧ t.wrErr = true) ∧
    (∃ t, exec .rdTsData State.reset = .next t ∧ t.rdErr = true) ∧
    (∃ t, exec (.wrTsData 4200) full = .next t ∧ t.ovf = true) ∧
    (tick false { full with phase := .capture }).ovf = true ∧ (tick true inRestore).done = true ∧
    traced.cmdErr = false ∧ inStart.wrErr = false ∧ State.reset.rdErr = false ∧ full.ovf = false ∧
    inRestore.done = false :=
  ⟨⟨_, rfl, rfl⟩, ⟨_, rfl, rfl⟩, ⟨_, rfl, rfl⟩, ⟨_, rfl, rfl⟩, by decide, by decide, by decide, by decide, by decide,
    by decide, by decide⟩

theorem witness_IdleResultsChangeOnlyOnCommand :
    ∃ s t : State, s.phase = .idle ∧ step s = .next t ∧ nextEvent s ≠ .reset :=
  ⟨{ traced with events := [.port 0x2300000002] }, _, rfl, rfl, Event.noConfusion⟩

/-- IRQ rising by a RESTORE tick, by DECODE and by WR_CTRL, and falling by a clear of DONE. -/
theorem witness_IrqRisesAndFallsOnlyAsListed :
    (∃ s t : State, step s = .next t ∧ s.irq = false ∧ t.irq = true ∧ s.phase = .restore) ∧
    (∃ s t : State, step s = .next t ∧ s.irq = false ∧ t.irq = true ∧ s.phase = .idle) ∧
    (∃ s t : State, step s = .next t ∧ s.irq = true ∧ t.irq = false) :=
  ⟨⟨{ inRestore with events := [.tick true] }, _, rfl, by decide, by decide, rfl⟩,
    ⟨{ traced with events := [.port 0x2300000002] }, _, rfl, by decide, by decide, rfl⟩,
    ⟨{ traced with done := true, events := [.port 0x2400000002] }, _, rfl, by decide, by decide⟩⟩

theorem witness_FifoDepthNeverChanges : ∃ s t : State, step s = .next t ∧ s.fifoDepth = 42 :=
  ⟨{ full with events := [.reset] }, _, rfl, by decide⟩

end Sys2Proof.Tests
end

section
/-! SUPPORT. The proofs of the statements of 10_state.md: the invariants of R45, taken apart into four pieces that
are each kept by every step, the frame of a failed decode, and the sticky flags of R28. -/

open Sys2Proof Sys2Proof.Machine

namespace Sys2Proof.Machine

/-! ## A step, once more -/

/-- Taking the next event changes the two event fields only, so what is kept by that, by the operation the event
asks for, by every tick and by reset is kept by the step. -/
theorem step_keeps {P : State → Prop} {s t : State} (h : step s = .next t) (hs : P s)
    (hevents : ∀ es n, P s → P { s with events := es, drawn := n })
    (hexec : ∀ u i, hostOp (nextEvent s) = some i → P u → exec i u = .next t → P t)
    (htick : ∀ u l, P u → P (tick l u)) (hreset : ∀ u, P u → P (resetBlock u)) : P t := by
  have hdrop : P (dropEvent s) := by
    obtain ⟨n, hn⟩ | ⟨es, hes⟩ := dropEvent_shape s
    · rw [hn]; exact hevents s.events n hs
    · rw [hes]; exact hevents es s.drawn hs
  cases step_effect h with
  | host i hi hx => exact hexec _ i hi hdrop hx
  | tick l _ => exact htick _ l hdrop
  | reset _ => exact hreset _ hdrop
  | elsewhere _ _ _ => exact hdrop

@[simp] theorem dropEvent_phase (s : State) : (dropEvent s).phase = s.phase := by unfold dropEvent; split <;> rfl
@[simp] theorem dropEvent_done (s : State) : (dropEvent s).done = s.done := by unfold dropEvent; split <;> rfl
@[simp] theorem dropEvent_cmdErr (s : State) : (dropEvent s).cmdErr = s.cmdErr := by unfold dropEvent; split <;> rfl
@[simp] theorem dropEvent_wrErr (s : State) : (dropEvent s).wrErr = s.wrErr := by unfold dropEvent; split <;> rfl
@[simp] theorem dropEvent_rdErr (s : State) : (dropEvent s).rdErr = s.rdErr := by unfold dropEvent; split <;> rfl
@[simp] theorem dropEvent_ovf (s : State) : (dropEvent s).ovf = s.ovf := by unfold dropEvent; split <;> rfl

/-! ## What a capture sample leaves alone (41_sampler.md R149) -/

@[simp] theorem sampleLine_phase (l : Bool) (s : State) : (sampleLine l s).phase = s.phase := by
  unfold sampleLine; split_ifs <;> rfl
@[simp] theorem sampleLine_done (l : Bool) (s : State) : (sampleLine l s).done = s.done := by
  unfold sampleLine; split_ifs <;> rfl
@[simp] theorem sampleLine_oe (l : Bool) (s : State) : (sampleLine l s).oe = s.oe := by
  unfold sampleLine; split_ifs <;> rfl
@[simp] theorem sampleLine_out (l : Bool) (s : State) : (sampleLine l s).out = s.out := by
  unfold sampleLine; split_ifs <;> rfl
@[simp] theorem sampleLine_result (l : Bool) (s : State) : (sampleLine l s).result = s.result := by
  unfold sampleLine; split_ifs <;> rfl
@[simp] theorem sampleLine_raw (l : Bool) (s : State) : (sampleLine l s).raw = s.raw := by
  unfold sampleLine; split_ifs <;> rfl
@[simp] theorem sampleLine_hum (l : Bool) (s : State) : (sampleLine l s).hum = s.hum := by
  unfold sampleLine; split_ifs <;> rfl
@[simp] theorem sampleLine_temp (l : Bool) (s : State) : (sampleLine l s).temp = s.temp := by
  unfold sampleLine; split_ifs <;> rfl

/-! ## The FIFO (10_state.md R35, R45 items 1 and 2) -/

/-- The clauses of the invariant that speak of EDGE, S, RPTR and N. -/
structure State.FifoInv (s : State) : Prop where
  fill_counts : s.edgeCount.toNat < Config.maxEdgeCount → s.fill = min s.edgeCount.toNat s.fifoDepth
  fill_saturated : s.edgeCount.toNat = Config.maxEdgeCount → s.fill = s.fifoDepth
  rptr_le_fill : s.rptr ≤ s.fill
  fill_le_depth : s.fill ≤ s.fifoDepth
  edge_wf : edgeWf s.fifoDepth s.edge = true
  edge_stored : ∀ i, i < s.fill → (edgeLookup i s.edge).isSome = true

/-- FifoInv reads these five fields only. -/
theorem State.FifoInv.congr {s t : State} (h : s.FifoInv) (he : t.edge = s.edge := by simp)
    (hf : t.fill = s.fill := by simp) (hr : t.rptr = s.rptr := by simp)
    (hn : t.edgeCount = s.edgeCount := by simp) (hd : t.extraDepth = s.extraDepth := by simp) : t.FifoInv := by
  have hdepth := fifoDepth_congr hd
  constructor <;> simp only [he, hf, hr, hn, hdepth]
  · exact h.fill_counts
  · exact h.fill_saturated
  · exact h.rptr_le_fill
  · exact h.fill_le_depth
  · exact h.edge_wf
  · exact h.edge_stored

/-- An empty FIFO with no edge counted, whatever EDGE holds. -/
theorem fifoInv_of_empty {s : State} (hf : s.fill = 0) (hr : s.rptr = 0) (hn : s.edgeCount = 0)
    (hwf : edgeWf s.fifoDepth s.edge = true) : s.FifoInv where
  fill_counts := by simp [hf, hn]
  fill_saturated := by simp [hn, Config.maxEdgeCount]
  rptr_le_fill := by simp [hr]
  fill_le_depth := by simp [hf]
  edge_wf := hwf
  edge_stored := by simp [hf]

theorem State.FifoInv.clearData {s : State} (h : s.FifoInv) : (clearData s).FifoInv :=
  fifoInv_of_empty rfl rfl rfl h.edge_wf

theorem State.FifoInv.popEdge {s : State} (h : s.FifoInv) (hr : s.rptr < s.fill) : (popEdge s).FifoInv where
  fill_counts := h.fill_counts
  fill_saturated := h.fill_saturated
  rptr_le_fill := hr
  fill_le_depth := h.fill_le_depth
  edge_wf := h.edge_wf
  edge_stored := h.edge_stored

/-- The edge count after RecordEdge, saturating (10_state.md R36). -/
theorem recordEdge_edgeCount_toNat (v : Half) (s : State) :
    (recordEdge v s).edgeCount.toNat = min (s.edgeCount.toNat + 1) Config.maxEdgeCount := by
  have hlt := s.edgeCount.isLt
  rw [recordEdge_edgeCount]
  split_ifs with h
  · simp only [Config.maxEdgeCount] at h ⊢
    rw [BitVec.toNat_add_of_lt] <;> simp <;> omega
  · simp only [Config.maxEdgeCount] at h ⊢
    omega

/-- RecordEdge stores an entry exactly while N is still below FIFO_DEPTH, so S stays `min(N, FIFO_DEPTH)`. -/
theorem State.FifoInv.recordEdge {s : State} (h : s.FifoInv) (v : Half) : (recordEdge v s).FifoInv := by
  obtain ⟨hcounts, hsat, hrptr, hfill, hwf, hstored⟩ := h
  have hdepth := fifoDepth_bounds s
  have hlt := s.edgeCount.isLt
  have hcount := recordEdge_edgeCount_toNat v s
  simp only [Config.maxEdgeCount] at hcounts hsat hcount
  constructor <;> simp only [hcount, recordEdge_fill, recordEdge_rptr, recordEdge_fifoDepth, Config.maxEdgeCount]
  case edge_wf => exact edgeWf_recordEdge v hwf
  case edge_stored =>
    intro i hi
    rw [recordEdge_edge]
    split_ifs at hi ⊢ with hroom
    · rw [edgeLookup_insert]
      split_ifs with hi'
      · rfl
      · exact hstored i (by omega)
    · exact hstored i hi
  all_goals split_ifs <;> omega

theorem exec_keeps_fifoInv {i : Instr} {s t : State} (hs : s.FifoInv) (h : exec i s = .next t) : t.FifoInv := by
  cases exec_effect h with
  | pop _ hr => exact hs.popEdge hr
  | push w _ _ => exact hs.recordEdge _
  | start _ _ => exact hs.clearData.congr
  | clear _ _ => exact hs.clearData
  | _ => exact hs.congr

theorem State.FifoInv.sampleLine {s : State} (h : s.FifoInv) (l : Bool) : (sampleLine l s).FifoInv := by
  unfold Machine.sampleLine
  split_ifs
  · exact (h.recordEdge s.cnt).congr
  · exact h.congr

theorem phaseStep_keeps_fifoInv {s : State} (l : Bool) (hs : s.FifoInv) : (phaseStep l s).FifoInv := by
  have he := phaseStep_effect l s
  generalize phaseStep l s = t at he ⊢
  cases he with
  | startEnds _ _ hentry => cases hentry <;> exact hs.congr
  | captureCounts _ _ => exact (hs.sampleLine l).congr
  | captureEnds _ _ => exact (hs.sampleLine l).congr
  | restore _ => unfold tickRestore; exact hs.congr
  | _ => exact hs.congr

theorem step_keeps_fifoInv {s t : State} (hs : s.FifoInv) (h : step s = .next t) : t.FifoInv :=
  step_keeps h hs (fun _ _ hs => hs.congr) (fun _ _ _ hu hx => exec_keeps_fifoInv hu hx)
    (fun _ l hu => phaseStep_keeps_fifoInv l hu.congr) (fun _ _ => fifoInv_of_empty rfl rfl rfl rfl)

/-! ## The phase, its counter and the pin (10_state.md R45 items 3 and 4) -/

/-- The clauses of the invariant that speak of PHASE, CNT, OE and OUT. -/
structure State.PinInv (s : State) : Prop where
  idle_cnt : s.phase = .idle → s.cnt = 0
  start_pin : s.phase = .start → s.oe = true ∧ s.out = false
  release_pin : s.phase = .release → s.oe = true ∧ s.out = true
  capture_pin : s.phase = .capture → s.oe = false

/-- PinInv reads these four fields only. -/
theorem State.PinInv.congr {s t : State} (h : s.PinInv) (hp : t.phase = s.phase := by simp)
    (hc : t.cnt = s.cnt := by simp) (he : t.oe = s.oe := by simp) (ho : t.out = s.out := by simp) : t.PinInv := by
  constructor <;> simp only [hp, hc, he, ho]
  · exact h.idle_cnt
  · exact h.start_pin
  · exact h.release_pin
  · exact h.capture_pin

/-- START enters its phase with the pin driven low; no other operation touches PHASE, CNT or the pin. -/
theorem exec_keeps_pinInv {i : Instr} {s t : State} (hs : s.PinInv) (h : exec i s = .next t) : t.PinInv := by
  cases exec_effect h with
  | start _ _ => constructor <;> simp
  | _ => exact hs.congr

/-- A count that goes on keeps PHASE, which is not IDLE, and the pin. -/
theorem State.PinInv.countUp {s : State} (h : s.PinInv) (hp : s.phase ≠ .idle) : (countUp s).PinInv where
  idle_cnt hi := absurd hi hp
  start_pin := h.start_pin
  release_pin := h.release_pin
  capture_pin := h.capture_pin

/-- The pin is released at the entry of CAPTURE, or of RESTORE where the window is empty. -/
theorem enterCapture_pinInv (s : State) : (enterCapture s).PinInv := by
  constructor <;> simp <;> split_ifs <;> simp

theorem PhaseEntry.pinInv {s t : State} (h : PhaseEntry s t) : t.PinInv := by
  cases h with
  | release _ => constructor <;> simp
  | capture => exact enterCapture_pinInv s

theorem phaseStep_keeps_pinInv {s : State} (l : Bool) (hs : s.PinInv) : (phaseStep l s).PinInv := by
  have he := phaseStep_effect l s
  generalize phaseStep l s = t at he ⊢
  cases he with
  | idle _ => exact hs
  | startCounts hp _ => exact hs.countUp (by simp [hp])
  | startEnds _ _ hentry => exact hentry.pinInv
  | releaseCounts hp _ => exact hs.countUp (by simp [hp])
  | releaseEnds _ _ => exact enterCapture_pinInv s
  | captureCounts hp _ =>
    have hsample : (sampleLine l s).PinInv := hs.congr
    exact hsample.countUp (by simp [hp])
  | captureEnds _ _ => constructor <;> simp
  | restore _ => constructor <;> simp [tickRestore]

theorem step_keeps_pinInv {s t : State} (hs : s.PinInv) (h : step s = .next t) : t.PinInv :=
  step_keeps h hs (fun _ _ hs => hs.congr) (fun _ _ _ hu hx => exec_keeps_pinInv hu hx)
    (fun _ l hu => phaseStep_keeps_pinInv l hu.congr) (fun _ _ => by constructor <;> simp)

/-! ## START_LOW's floor (10_state.md R23) -/

theorem startLowOperand_floor (w : Word) : 18000 ≤ (startLowOperand w).toNat := by
  unfold startLowOperand
  split_ifs with h
  · simp [startLowFloor]
  · simpa [startLowFloor, BitVec.lt_def] using h

theorem step_keeps_startLow_floor {s t : State} (hs : 18000 ≤ s.startLow.toNat) (h : step s = .next t) :
    18000 ≤ t.startLow.toNat := by
  refine step_keeps (P := fun u => 18000 ≤ u.startLow.toNat) h hs (fun _ _ hs => hs) ?_ ?_ ?_
  · intro u i _ hu hx
    cases exec_effect hx with
    | startLow w _ _ => exact startLowOperand_floor w
    | _ => simpa using hu
  · intro u l hu
    obtain ⟨_, _, _, hfloor, _⟩ := tick_frame l u
    rwa [hfloor]
  · intro u _
    simp

/-! ## What DECODE leaves (42_frame_decoder.md R170) -/

/-- What Decode() makes of a state: the three ways it ends. -/
inductive DecodeEffect (s : State) : State → Prop
  | noResponse : s.edgeCount.toNat = 0 → DecodeEffect s (failDecode .noResponse 0 s)
  | frame : s.edgeCount.toNat = 41 ∨ s.edgeCount.toNat = 42 →
      DecodeEffect s (checkInterpret { s with raw := packFrame s, bitCount := 40 })
  | wrongCount : s.edgeCount.toNat ≠ 0 → s.edgeCount.toNat ≠ 41 → s.edgeCount.toNat ≠ 42 →
      DecodeEffect s (failDecode .incorrectByteCount (s.edgeCount - 1) s)

theorem decodeTrace_effect (s : State) : DecodeEffect s (decodeTrace s) := by
  unfold decodeTrace
  split_ifs with h0 hframe
  · exact .noResponse h0
  · exact .frame hframe
  · exact .wrongCount h0 (fun h => hframe (.inl h)) (fun h => hframe (.inr h))

/-- A tick before the end of a transaction leaves the results alone; the RESTORE tick decodes. -/
theorem phaseStep_results (l : Bool) (s : State) :
    ((phaseStep l s).result = s.result ∧ (phaseStep l s).raw = s.raw ∧ (phaseStep l s).hum = s.hum ∧
      (phaseStep l s).temp = s.temp) ∨ phaseStep l s = tickRestore s := by
  have he := phaseStep_effect l s
  generalize phaseStep l s = t at he ⊢
  cases he with
  | startEnds _ _ hentry => cases hentry <;> simp
  | restore _ => exact .inr rfl
  | _ => simp

/-! ## The reading of a failed frame (10_state.md R45 item 5) -/

/-- HUM and TEMP are 0 unless the last decode succeeded. -/
def State.FailedReadingZero (s : State) : Prop := s.result ≠ .success → s.hum = 0 ∧ s.temp = 0

theorem checkInterpret_failedReadingZero (s : State) : (checkInterpret s).FailedReadingZero := by
  intro h
  have hbad : ¬ csumOk s.csumMode s.raw = true := fun hok => h (by simp [hok])
  simp [hbad]

theorem decodeTrace_failedReadingZero (s : State) : (decodeTrace s).FailedReadingZero := by
  have he := decodeTrace_effect s
  generalize decodeTrace s = t at he ⊢
  cases he with
  | noResponse _ => exact fun _ => ⟨rfl, rfl⟩
  | frame _ => exact checkInterpret_failedReadingZero _
  | wrongCount _ _ _ => exact fun _ => ⟨rfl, rfl⟩

theorem exec_keeps_failedReadingZero {i : Instr} {s t : State} (hs : s.FailedReadingZero)
    (h : exec i s = .next t) : t.FailedReadingZero := by
  cases exec_effect h with
  | start _ _ => exact fun _ => ⟨rfl, rfl⟩
  | clear _ _ => exact fun _ => ⟨rfl, rfl⟩
  | decode _ _ => exact decodeTrace_failedReadingZero (clearDone s)
  | interpret _ _ => exact checkInterpret_failedReadingZero (clearDone s)
  | _ => exact hs

theorem phaseStep_keeps_failedReadingZero {s : State} (l : Bool) (hs : s.FailedReadingZero) :
    (phaseStep l s).FailedReadingZero := by
  obtain ⟨hresult, _, hhum, htemp⟩ | hrestore := phaseStep_results l s
  · simpa only [State.FailedReadingZero, hresult, hhum, htemp] using hs
  · rw [hrestore]; exact decodeTrace_failedReadingZero (restorePin s)

theorem step_keeps_failedReadingZero {s t : State} (hs : s.FailedReadingZero) (h : step s = .next t) :
    t.FailedReadingZero :=
  step_keeps h hs (fun _ _ hs => hs) (fun _ _ _ hu hx => exec_keeps_failedReadingZero hu hx)
    (fun u l hu => phaseStep_keeps_failedReadingZero (s := clockTick l u) l hu) (fun _ _ _ => ⟨rfl, rfl⟩)

/-! ## The whole invariant -/

/-- The invariant is these four pieces. -/
theorem inv_iff (s : State) :
    s.Inv ↔ s.FifoInv ∧ s.PinInv ∧ s.FailedReadingZero ∧ 18000 ≤ s.startLow.toNat := by
  constructor
  · intro h
    exact ⟨⟨h.fill_counts, h.fill_saturated, h.rptr_le_fill, h.fill_le_depth, h.edge_wf, h.edge_stored⟩,
      ⟨h.idle_cnt, h.start_pin, h.release_pin, h.capture_pin⟩, h.failed_zero, h.startLow_floor⟩
  · rintro ⟨hfifo, hpin, hzero, hfloor⟩
    exact { hfifo, hpin with failed_zero := hzero, startLow_floor := hfloor }

/-! ## The frame of a failed decode (10_state.md R45 item 6, 42_frame_decoder.md R180) -/

/-- CheckInterpret never answers one of the two failures that clear RAW. -/
theorem checkInterpret_failedFrameZero (s : State) : (checkInterpret s).FailedFrameZero := by
  unfold State.FailedFrameZero
  rw [checkInterpret_result]
  split_ifs <;> simp

theorem decodeTrace_failedFrameZero (s : State) : (decodeTrace s).FailedFrameZero := by
  have he := decodeTrace_effect s
  generalize decodeTrace s = t at he ⊢
  cases he with
  | noResponse _ => exact fun _ => rfl
  | frame _ => exact checkInterpret_failedFrameZero _
  | wrongCount _ _ _ => exact fun _ => rfl

theorem exec_keeps_failedFrameZero {i : Instr} {s t : State} (hs : s.FailedFrameZero) (h : exec i s = .next t)
    (hlo : ∀ w, i ≠ .wrRawLo w) (hhi : ∀ w, i ≠ .wrRawHi w) : t.FailedFrameZero := by
  cases exec_effect h with
  | rawLo w hi _ => exact absurd hi (hlo w)
  | rawHi w hi _ => exact absurd hi (hhi w)
  | start _ _ => exact fun _ => rfl
  | clear _ _ => exact fun _ => rfl
  | decode _ _ => exact decodeTrace_failedFrameZero (clearDone s)
  | interpret _ _ => exact checkInterpret_failedFrameZero (clearDone s)
  | _ => exact hs

theorem phaseStep_keeps_failedFrameZero {s : State} (l : Bool) (hs : s.FailedFrameZero) :
    (phaseStep l s).FailedFrameZero := by
  obtain ⟨hresult, hraw, _, _⟩ | hrestore := phaseStep_results l s
  · simpa only [State.FailedFrameZero, hresult, hraw] using hs
  · rw [hrestore]; exact decodeTrace_failedFrameZero (restorePin s)

/-! ## The sticky flags (10_state.md R28) -/

/-- A step from `s` to `t` clears none of CMDERR, WRERR and RDERR. -/
def ErrorFlagsKept (s t : State) : Prop :=
  (s.cmdErr = true → t.cmdErr = true) ∧ (s.wrErr = true → t.wrErr = true) ∧ (s.rdErr = true → t.rdErr = true)

/-- A step from `s` to `t` clears neither OVF nor DONE. -/
def DataFlagsKept (s t : State) : Prop := (s.ovf = true → t.ovf = true) ∧ (s.done = true → t.done = true)

/-- Only a write of STATUS clears a flag, but for START and CLEAR, which clear OVF and DONE. -/
theorem exec_flags {i : Instr} {s t : State} (h : exec i s = .next t) :
    (∃ w, i = .wrStatus w ∧ t = clearFlags w s) ∨
      ErrorFlagsKept s t ∧ (DataFlagsKept s t ∨ s.phase = .idle ∧ (i = .start ∨ i = .clear)) := by
  cases exec_effect h with
  | clearFlags w hi => exact .inl ⟨w, hi, rfl⟩
  | start hi hp => exact .inr ⟨by simp [ErrorFlagsKept], .inr ⟨hp, .inl hi⟩⟩
  | clear hi hp => exact .inr ⟨by simp [ErrorFlagsKept], .inr ⟨hp, .inr hi⟩⟩
  | push w _ _ => exact .inr ⟨by simp [ErrorFlagsKept], .inl (by simp +contextual [DataFlagsKept])⟩
  | _ => exact .inr ⟨by simp [ErrorFlagsKept], .inl (by simp [DataFlagsKept])⟩

theorem sampleLine_keeps_ovf (l : Bool) (s : State) (h : s.ovf = true) : (sampleLine l s).ovf = true := by
  unfold sampleLine; split_ifs <;> simp [h]

theorem tick_keeps_errorFlags (l : Bool) (s : State) : ErrorFlagsKept s (tick l s) := by
  obtain ⟨_, _, _, _, _, _, _, hcmd, hwr, hrd, _⟩ := tick_frame l s
  simp [ErrorFlagsKept, hcmd, hwr, hrd]

/-- A tick sets OVF or DONE and clears neither. -/
theorem phaseStep_keeps_dataFlags (l : Bool) (s : State) : DataFlagsKept s (phaseStep l s) := by
  have hsample := sampleLine_keeps_ovf l s
  have he := phaseStep_effect l s
  generalize phaseStep l s = t at he ⊢
  cases he with
  | startEnds _ _ hentry => cases hentry <;> simp [DataFlagsKept]
  | captureCounts _ _ => simpa [DataFlagsKept] using hsample
  | captureEnds _ _ => simpa [DataFlagsKept] using hsample
  | restore _ => simp [DataFlagsKept, tickRestore]
  | _ => simp [DataFlagsKept]

theorem tick_keeps_dataFlags (l : Bool) (s : State) : DataFlagsKept s (tick l s) :=
  phaseStep_keeps_dataFlags l (clockTick l s)

/-- The ways a step can clear a flag: reset, a write of STATUS, and for OVF and DONE an accepted START or CLEAR. -/
theorem step_flags {s t : State} (h : step s = .next t) :
    nextEvent s = .reset ∨
      (∃ w, hostOp (nextEvent s) = some (.wrStatus w) ∧ t = clearFlags w (dropEvent s)) ∨
      ErrorFlagsKept s t ∧ (DataFlagsKept s t ∨
        s.phase = .idle ∧ (hostOp (nextEvent s) = some .start ∨ hostOp (nextEvent s) = some .clear)) := by
  cases step_effect h with
  | host i hi hx =>
    obtain ⟨w, rfl, ht⟩ | hkept := exec_flags hx
    · exact .inr (.inl ⟨w, hi, ht⟩)
    · simpa [hi, ErrorFlagsKept, DataFlagsKept] using Or.inr (Or.inr hkept)
  | tick l _ =>
    have herr := tick_keeps_errorFlags l (dropEvent s)
    have hdata := tick_keeps_dataFlags l (dropEvent s)
    exact .inr (.inr ⟨by simpa [ErrorFlagsKept] using herr, .inl (by simpa [DataFlagsKept] using hdata)⟩)
  | reset hr => exact .inl hr
  | elsewhere _ _ _ => exact .inr (.inr ⟨by simp [ErrorFlagsKept], .inl (by simp [DataFlagsKept])⟩)

/-- A flag survives a write of STATUS unless its bit is written 1. -/
theorem w1c_kept_or_written {flag : Bool} (written : Bool) (h : flag = true) :
    w1c written flag = true ∨ written = true := by
  cases written <;> simp [w1c, h]

end Sys2Proof.Machine

/-! ## The statements -/

/-- Settles O50, each piece of the invariant by its own step lemma. -/
theorem stepKeepsTheInvariant : Obligations.StepKeepsTheInvariant := by
  intro s t hinv h
  obtain ⟨hfifo, hpin, hzero, hfloor⟩ := (inv_iff s).mp hinv
  exact (inv_iff t).mpr ⟨step_keeps_fifoInv hfifo h, step_keeps_pinInv hpin h,
    step_keeps_failedReadingZero hzero h, step_keeps_startLow_floor hfloor h⟩

/-- Settles O52: a decode that fails zeroes RAW, and only the two excluded writes can fill it under a failed
result. -/
theorem failedFramesStayZero : Obligations.FailedFramesStayZero := by
  intro s t hs h hop
  refine step_keeps h hs (fun _ _ hs => hs) (fun u i hi hu hx => ?_)
    (fun u l hu => phaseStep_keeps_failedFrameZero (s := clockTick l u) l hu) (fun _ _ _ => rfl)
  exact exec_keeps_failedFrameZero hu hx (fun w hw => (hop w).1 (hw ▸ hi)) (fun w hw => (hop w).2 (hw ▸ hi))

/-- Settles O54, by the ways a step can clear a flag. -/
theorem stickyFlagsAreSticky : Obligations.StickyFlagsAreSticky := by
  intro s t h
  obtain hreset | ⟨w, hop, rfl⟩ | ⟨⟨hcmd, hwr, hrd⟩, hdata⟩ := step_flags h
  · simp [hreset]
  · have hclear : ∀ k flag, flag = true → w1c (w.getLsbD k) flag = true ∨
        ∃ v, hostOp (nextEvent s) = some (.wrStatus v) ∧ v.getLsbD k = true :=
      fun k _ hflag => (w1c_kept_or_written _ hflag).imp_right fun hbit => ⟨w, hop, hbit⟩
    simp only [clearFlags_cmdErr, clearFlags_wrErr, clearFlags_rdErr, clearFlags_ovf, clearFlags_done,
      dropEvent_cmdErr, dropEvent_wrErr, dropEvent_rdErr, dropEvent_ovf, dropEvent_done]
    exact ⟨fun hf => (hclear 3 _ hf).imp_right .inr, fun hf => (hclear 4 _ hf).imp_right .inr,
      fun hf => (hclear 5 _ hf).imp_right .inr, fun hf => (hclear 6 _ hf).imp_right (.inr ∘ .inl),
      fun hf => (hclear 1 _ hf).imp_right (.inr ∘ .inl)⟩
  · refine ⟨fun hf => .inl (hcmd hf), fun hf => .inl (hwr hf), fun hf => .inl (hrd hf), ?_⟩
    obtain ⟨hovf, hdone⟩ | hcommand := hdata
    · exact ⟨fun hf => .inl (hovf hf), fun hf => .inl (hdone hf)⟩
    · exact ⟨fun _ => .inr (.inr (.inr hcommand)), fun _ => .inr (.inr (.inr hcommand))⟩

/-- Settles O53: reset is idle with an empty FIFO and no result. -/
theorem resetMeetsTheInvariants : Obligations.ResetMeetsTheInvariants := by
  have hidle : State.reset.phase = .idle := rfl
  have hcnt : State.reset.cnt = 0 := rfl
  have hfill : State.reset.fill = 0 := rfl
  refine ⟨(inv_iff _).mpr ⟨fifoInv_of_empty rfl rfl rfl rfl, ?_, fun _ => ⟨rfl, rfl⟩, by decide⟩, ?_, nofun⟩
  · constructor <;> simp [hidle, hcnt]
  · constructor <;> simp [hidle, hfill]

end

section
/-! SUPPORT. The proofs of the statements of 20_memory.md: which events reach the block and what they ask of it
(R60 to R67), reads that can be repeated (R69), and the course of a transaction under any interleaving with host
accesses (R70). -/

open Sys2Proof Sys2Proof.Machine

namespace Sys2Proof.Machine

/-! ## The window on the bus (20_memory.md R60, R61, R67) -/

theorem touchesWindow_iff (a : BusAccess) :
    touchesWindow a = true ↔ Config.base < a.addr + a.size.bytes ∧ a.addr < Config.base + 128 := by
  rw [touchesWindow, Bool.and_eq_true, decide_eq_true_iff, decide_eq_true_iff]
  rfl

theorem alignedWord_iff (a : BusAccess) : alignedWord a = true ↔ a.size = .word ∧ a.addr % 4 = 0 := by
  simp [alignedWord]

/-- Every host operation completes (60_exceptions.md R220). -/
theorem exec_completes (i : Instr) (s : State) : ∃ t, exec i s = .next t := by
  cases i <;> exact ⟨_, rfl⟩

/-- An access with no byte in the window does not reach the block. -/
theorem runBus_outside {a : BusAccess} (h : a.addr + a.size.bytes ≤ Config.base ∨ Config.base + 128 ≤ a.addr)
    (s : State) : runBus a s = .next s := by
  have hout : ¬ touchesWindow a = true := by rw [touchesWindow_iff]; omega
  rw [runBus, if_neg hout]

/-- BASE is aligned to the window, so the aligned word access at `BASE + 4·k` has word index `k`. -/
theorem runBus_register (k : Index) (write : Bool) (wdata : Word) (s : State) :
    runBus ⟨Config.base + 4 * k.toNat, .word, write, wdata⟩ s = exec (decodeWord (accessWord write k wdata)) s := by
  have hk := k.isLt
  have hin : touchesWindow ⟨Config.base + 4 * k.toNat, .word, write, wdata⟩ = true := by
    rw [touchesWindow_iff]; simp only [AccessSize.bytes]; omega
  have haligned : alignedWord ⟨Config.base + 4 * k.toNat, .word, write, wdata⟩ = true := by
    rw [alignedWord_iff]; simp only [Config.base, Config.windowBytes, true_and]; omega
  have hindex : wordIndex ⟨Config.base + 4 * k.toNat, .word, write, wdata⟩ = k := by
    simp [wordIndex]
  rw [runBus, if_pos hin, if_pos haligned, runPort, portWord, hindex]

/-- An access to the window is refused unless it is an aligned word access. -/
theorem runBus_undefined {a : BusAccess} (h : undefinedBus (.bus a) = true) (s : State) :
    runBus a s = .refused .undefinedAccess := by
  obtain ⟨hin, haligned⟩ : touchesWindow a = true ∧ ¬ alignedWord a = true := by simpa [undefinedBus] using h
  rw [runBus, if_pos hin, if_neg haligned]

theorem runBus_completes {a : BusAccess} (h : undefinedBus (.bus a) = false) (s : State) :
    ∃ t, runBus a s = .next t := by
  unfold runBus
  split_ifs with hin haligned
  · exact exec_completes _ s
  · simp [undefinedBus, hin, haligned] at h
  · exact ⟨s, rfl⟩

theorem undefinedBus_iff (e : Event) :
    undefinedBus e = true ↔ ∃ a, e = .bus a ∧ Config.base < a.addr + a.size.bytes ∧
      a.addr < Config.base + 128 ∧ ¬ (a.size = .word ∧ a.addr % 4 = 0) := by
  cases e with
  | bus a =>
    have h : undefinedBus (.bus a) = true ↔ touchesWindow a = true ∧ ¬ alignedWord a = true := by
      simp [undefinedBus]
    rw [h, touchesWindow_iff, alignedWord_iff]
    simp [and_assoc]
  | port _ | tick _ | reset => simp [undefinedBus]

/-- The one event that is refused is the undefined access; every other completes. -/
theorem takeEvent_refused {e : Event} (h : undefinedBus e = true) (s : State) :
    takeEvent e s = .refused .undefinedAccess := by
  cases e with
  | bus a => exact runBus_undefined h s
  | port _ | tick _ | reset => cases h

theorem takeEvent_completes {e : Event} (h : undefinedBus e = false) (s : State) :
    ∃ t, takeEvent e s = .next t := by
  cases e with
  | port w => exact exec_completes _ s
  | bus a => exact runBus_completes h s
  | tick l => exact ⟨_, rfl⟩
  | reset => exact ⟨_, rfl⟩

/-- A listed event is the next step. -/
theorem step_listed {s : State} {e : Event} {es : List Event} (h : s.events = e :: es) :
    step s = takeEvent e { s with events := es } := by
  simp [step, nextEvent, dropEvent, h]

/-! ## Reads (20_memory.md R63, R69) -/

/-- Behind the 18 registers the decoder reads a reserved index, which answers 0. -/
theorem exec_decodeRead_reserved {idx : Index} (h : 18 ≤ idx.toNat) (s : State) :
    exec (decodeRead idx) s = .next { s with rdata := some 0 } := by
  unfold decodeRead
  split
  iterate 18 · omega
  all_goals rfl

theorem exec_decodeWrite_reserved {idx : Index} (h : 18 ≤ idx.toNat) (wdata : Word) (s : State) :
    exec (decodeWrite idx wdata) s = .next s := by
  unfold decodeWrite
  split
  iterate 18 · omega
  all_goals rfl

/-- A read but the pop changes nothing but the answer, and does not see the answer before it. -/
theorem exec_read {i : Instr} (hread : accessWrite (encodeWord i) = false) (hpop : i ≠ .rdTsData) (s : State) :
    ∃ v, exec i s = .next (respond v s) ∧ ∀ w, exec i (respond w s) = exec i s := by
  cases i
  case rdTsData => exact absurd rfl hpop
  all_goals simp only [encodeWord, encodeWrite, encodeCommand, accessWrite_accessWord, reduceCtorEq] at hread
  all_goals exact ⟨_, rfl, fun _ => rfl⟩

/-! ## What a transaction lives on (40_register_access.md R100) -/

/-- The state with the sticky flags, RPTR and the model's own record of the outside world blanked: what is left is
the part a transaction lives on. -/
def State.transaction (s : State) : State :=
  { s with
    done := false, cmdErr := false, wrErr := false, rdErr := false, ovf := false
    rptr := 0, rdata := none, events := [], drawn := 0 }

/-- Two states are in the same transaction when they agree once blanked. -/
theorem sameTransaction_iff (s t : State) : sameTransaction s t ↔ t.transaction = s.transaction := by
  cases s; cases t
  simp [sameTransaction, State.transaction]

theorem sameTransaction.refl (s : State) : sameTransaction s s := (sameTransaction_iff s s).mpr rfl

theorem sameTransaction.trans {s t u : State} (hst : sameTransaction s t) (htu : sameTransaction t u) :
    sameTransaction s u := by
  rw [sameTransaction_iff] at *
  exact htu.trans hst

/-- While BUSY, a host operation touches nothing of the transaction. -/
theorem exec_busy_sameTransaction {i : Instr} {s t : State} (hbusy : s.phase ≠ .idle) (h : exec i s = .next t) :
    sameTransaction s t := by
  cases exec_effect h with
  | read _ | pop _ _ | popEmpty _ _ | nothing | writeRejected _ _ | commandRejected _ | clearFlags _ _ =>
    simp [sameTransaction]
  | _ => exact absurd ‹s.phase = .idle› hbusy

/-! ## A tick reads the transaction only (41_sampler.md R143) -/

/-- A choice that depends on the transaction alone, between states that agree once blanked. -/
theorem transaction_ite {c : Prop} [Decidable c] {a b a' b' : State} (ha : a'.transaction = a.transaction)
    (hb : b'.transaction = b.transaction) :
    (if c then a' else b').transaction = (if c then a else b).transaction := by
  split_ifs
  · exact ha
  · exact hb

theorem enterRelease_transaction (s : State) :
    (enterRelease s.transaction).transaction = (enterRelease s).transaction :=
  transaction_ite rfl rfl

theorem tickStart_transaction (s : State) : (tickStart s.transaction).transaction = (tickStart s).transaction :=
  transaction_ite (enterRelease_transaction s) rfl

theorem tickRelease_transaction (s : State) :
    (tickRelease s.transaction).transaction = (tickRelease s).transaction :=
  transaction_ite rfl rfl

theorem sampleLine_transaction (l : Bool) (s : State) :
    (sampleLine l s.transaction).transaction = (sampleLine l s).transaction :=
  have h : (if s.prev && !l then recordEdge s.cnt s.transaction else s.transaction).transaction =
      (if s.prev && !l then recordEdge s.cnt s else s).transaction := transaction_ite rfl rfl
  congrArg (fun u : State => { u with prev := l }) h

theorem advanceCapture_transaction (s : State) :
    (advanceCapture s.transaction).transaction = (advanceCapture s).transaction :=
  transaction_ite rfl rfl

theorem tickCapture_transaction (l : Bool) (s : State) :
    (tickCapture l s.transaction).transaction = (tickCapture l s).transaction := by
  rw [tickCapture, ← advanceCapture_transaction, sampleLine_transaction, advanceCapture_transaction, tickCapture]

theorem decodeTrace_transaction (s : State) :
    (decodeTrace s.transaction).transaction = (decodeTrace s).transaction :=
  transaction_ite rfl (transaction_ite rfl rfl)

theorem tickRestore_transaction (s : State) :
    (tickRestore s.transaction).transaction = (tickRestore s).transaction := by
  have h : (decodeTrace (restorePin s.transaction)).transaction = (decodeTrace (restorePin s)).transaction :=
    decodeTrace_transaction (restorePin s)
  exact congrArg (fun u : State => { u with phase := .idle, cnt := 0 }) h

theorem phaseStep_transaction (l : Bool) (s : State) :
    (phaseStep l s.transaction).transaction = (phaseStep l s).transaction := by
  cases hp : s.phase with
  | idle => rw [phaseStep_idle hp, phaseStep_idle (s := s.transaction) hp]; rfl
  | start =>
    rw [phaseStep_start hp, phaseStep_start (s := s.transaction) hp]
    exact tickStart_transaction s
  | release =>
    rw [phaseStep_release hp, phaseStep_release (s := s.transaction) hp]
    exact tickRelease_transaction s
  | capture =>
    rw [phaseStep_capture hp, phaseStep_capture (s := s.transaction) hp]
    exact tickCapture_transaction l s
  | restore =>
    rw [phaseStep_restore hp, phaseStep_restore (s := s.transaction) hp]
    exact tickRestore_transaction s

theorem tick_transaction (l : Bool) (s : State) :
    (tick l s.transaction).transaction = (tick l s).transaction := by
  have hclock : (clockTick l s.transaction).transaction = (clockTick l s).transaction := rfl
  rw [tick, tick, ← phaseStep_transaction l (clockTick l s.transaction), hclock, phaseStep_transaction]

theorem sameTransaction.tick {s t : State} (h : sameTransaction s t) (l : Bool) :
    sameTransaction (tick l s) (tick l t) := by
  rw [sameTransaction_iff] at *
  rw [← tick_transaction, h, tick_transaction]

theorem sameTransaction.runTicks {s t : State} (h : sameTransaction s t) (levels : List Bool) :
    sameTransaction (runTicks levels s) (runTicks levels t) := by
  induction levels generalizing s t with
  | nil => exact h
  | cons l levels ih => exact ih (h.tick l)

/-! ## The course of a transaction (41_sampler.md R152, R153) -/

/-- After `n` ticks a transaction of `s` that stands in a phase has spent `c` ticks in it, and holds the pin as
`oe` and `out` say. -/
def State.CourseAt (s : State) (n : Nat) (p : Phase) (c : Nat) (oe out : Bool) : Prop :=
  match p with
  | .idle => False
  | .start => n = c ∧ c < s.startLow.toNat ∧ oe = true ∧ out = false
  | .release => n = s.startLow.toNat + c ∧ c < s.release.toNat ∧ oe = true ∧ out = true
  | .capture => n = s.startLow.toNat + s.release.toNat + c ∧ c < s.window.toNat ∧ oe = false
  | .restore => n = s.ticksToRestore ∧ oe = false

/-- `v` is where a transaction of `s` stands after `n` ticks, with CNT: what every tick before RESTORE's keeps. -/
structure State.OnCourse (s : State) (n : Nat) (v : State) : Prop where
  startLow_eq : v.startLow = s.startLow
  release_eq : v.release = s.release
  window_eq : v.window = s.window
  course : s.CourseAt n v.phase v.cnt.toNat v.oe v.out

theorem State.OnCourse.busy {s v : State} {n : Nat} (h : s.OnCourse n v) : v.phase ≠ .idle := by
  intro hp
  have hc := h.course
  rwa [hp] at hc

theorem State.OnCourse.onTimeline {s v : State} {n : Nat} (h : s.OnCourse n v) : s.OnTimeline n v := by
  have hc := h.course
  unfold State.OnTimeline
  cases hp : v.phase <;> simp only [hp, State.CourseAt, State.ticksToRestore] at hc ⊢
  case start =>
    obtain ⟨hn, hlt, hoe, hout⟩ := hc
    exact ⟨fun _ => ⟨trivial, hoe, hout⟩, by omega, by omega, by omega⟩
  case release =>
    obtain ⟨hn, hlt, hoe, hout⟩ := hc
    exact ⟨by omega, fun _ _ => ⟨trivial, hoe, hout⟩, by omega, by omega⟩
  case capture =>
    obtain ⟨hn, hlt, hoe⟩ := hc
    exact ⟨by omega, by omega, fun _ _ => ⟨trivial, hoe⟩, by omega⟩
  case restore =>
    obtain ⟨hn, hoe⟩ := hc
    exact ⟨by omega, by omega, by omega, fun _ => ⟨trivial, hoe⟩⟩

/-- The course is part of what a transaction lives on. -/
theorem State.OnCourse.congr {s v w : State} {n : Nat} (h : s.OnCourse n v) (hvw : sameTransaction v w) :
    s.OnCourse n w := by
  obtain ⟨_, _, _, hstart, hrelease, hwindow, _, _, hphase, hcnt, _, _, hoe, hout, _⟩ := hvw
  refine ⟨hstart.trans h.startLow_eq, hrelease.trans h.release_eq, hwindow.trans h.window_eq, ?_⟩
  rw [hphase, hcnt, hoe, hout]
  exact h.course

/-- START_LOW is never 0, so a START begins its pulse. -/
theorem acceptStart_onCourse {s : State} (hfloor : 18000 ≤ s.startLow.toNat) : s.OnCourse 0 (acceptStart s) :=
  ⟨rfl, rfl, rfl, rfl, show 0 < s.startLow.toNat by omega, rfl, rfl⟩

section
variable {s v : State} {n : Nat}

/-- The capture window opens after `L + R` ticks; an empty one is over at once. -/
theorem enterCapture_courseAt (hw : v.window = s.window) (hn : n = s.startLow.toNat + s.release.toNat) :
    s.CourseAt n (enterCapture v).phase (enterCapture v).cnt.toNat (enterCapture v).oe (enterCapture v).out := by
  simp only [enterCapture_phase, enterCapture_cnt, enterCapture_oe, hw]
  split_ifs with h
  · exact ⟨by simp [State.ticksToRestore, hn, h], rfl⟩
  · exact ⟨by simpa using hn, by simp; omega, rfl⟩

/-- The release phase starts after `L` ticks; with RELEASE = 0 the window opens at once. -/
theorem enterRelease_courseAt (hr : v.release = s.release) (hw : v.window = s.window)
    (hn : n = s.startLow.toNat) :
    s.CourseAt n (enterRelease v).phase (enterRelease v).cnt.toNat (enterRelease v).oe (enterRelease v).out := by
  unfold enterRelease
  split_ifs with h
  · exact enterCapture_courseAt hw (by rw [hn, ← hr, h, Nat.add_zero])
  · exact ⟨by simpa using hn, by rw [← hr]; simp; omega, rfl, rfl⟩

/-- A tick before RESTORE's takes a transaction one tick further on its course. -/
theorem phaseStep_courseAt (l : Bool) (h : s.OnCourse n v) (hn : n < s.ticksToRestore) :
    s.CourseAt (n + 1) (phaseStep l v).phase (phaseStep l v).cnt.toNat (phaseStep l v).oe (phaseStep l v).out := by
  obtain ⟨hstart, hrelease, hwindow, hc⟩ := h
  cases hp : v.phase <;> simp only [hp, State.CourseAt] at hc
  case start =>
    obtain ⟨hn', hlt, hoe, hout⟩ := hc
    rw [phaseStep_start hp, tickStart, hstart]
    split_ifs with hend
    · exact enterRelease_courseAt hrelease hwindow (by simp only [nextCount] at hend; omega)
    · have hcnt := countUp_cnt_toNat (startLow_le s) (Nat.lt_of_not_le hend)
      rw [countUp_phase, hp, hcnt]
      exact ⟨by omega, by simpa [nextCount] using hend, hoe, hout⟩
  case release =>
    obtain ⟨hn', hlt, hoe, hout⟩ := hc
    rw [phaseStep_release hp, tickRelease, hrelease]
    split_ifs with hend
    · exact enterCapture_courseAt hwindow (by simp only [nextCount] at hend; omega)
    · have hcnt := countUp_cnt_toNat (release_le s) (Nat.lt_of_not_le hend)
      rw [countUp_phase, hp, hcnt]
      exact ⟨by omega, by simpa [nextCount] using hend, hoe, hout⟩
  case capture =>
    obtain ⟨hn', hlt, hoe⟩ := hc
    have hnext : nextCount (sampleLine l v) = v.cnt.toNat + 1 := by simp [nextCount]
    rw [phaseStep_capture hp, tickCapture, advanceCapture, sampleLine_window, hwindow, hnext]
    split_ifs with hend
    · exact ⟨by rw [State.ticksToRestore]; omega, by simpa using hoe⟩
    · have hcnt := countUp_cnt_toNat (window_le s) (hnext ▸ Nat.lt_of_not_le hend)
      rw [countUp_phase, sampleLine_phase, hp, hcnt, sampleLine_cnt]
      exact ⟨by omega, by omega, by simpa using hoe⟩
  case restore => omega

theorem tick_onCourse (l : Bool) (h : s.OnCourse n v) (hn : n < s.ticksToRestore) :
    s.OnCourse (n + 1) (tick l v) := by
  obtain ⟨_, _, _, hstart, hrelease, hwindow, _⟩ := tick_frame l v
  have hclock : s.OnCourse n (clockTick l v) := ⟨h.startLow_eq, h.release_eq, h.window_eq, h.course⟩
  exact ⟨hstart.trans h.startLow_eq, hrelease.trans h.release_eq, hwindow.trans h.window_eq,
    phaseStep_courseAt l hclock hn⟩

theorem runTicks_onCourse (levels : List Bool) (h : s.OnCourse n v) (hn : n + levels.length ≤ s.ticksToRestore) :
    s.OnCourse (n + levels.length) (runTicks levels v) := by
  induction levels generalizing n v with
  | nil => exact h
  | cons l levels ih =>
    rw [List.length_cons] at hn ⊢
    have hrest := ih (tick_onCourse l h (by omega)) (by omega)
    rwa [Nat.add_right_comm] at hrest

end

/-! ## Host accesses between the ticks (20_memory.md R70) -/

/-- The level an event brings, if it is a tick. -/
def tickLevel : Event → Option Bool
  | .tick l => some l
  | _ => none

theorem tickLevel_isSome (e : Event) : (tickLevel e).isSome = isTick e := by cases e <;> rfl

theorem tickLevel_of_hostOp {e : Event} {i : Instr} (h : hostOp e = some i) : tickLevel e = none := by
  cases e with
  | tick l => exact nomatch h
  | port w => rfl
  | bus a => rfl
  | reset => rfl

/-- With the block BUSY, a listed event that is no reset does to the transaction what its tick does, and nothing if
it is no tick. -/
theorem step_busy_sameTransaction {s t : State} {e : Event} {es : List Event} (hs : s.events = e :: es)
    (hbusy : s.phase ≠ .idle) (hreset : e ≠ .reset) (h : step s = .next t) :
    t.events = es ∧ sameTransaction (runTicks (tickLevel e).toList s) t := by
  have hnext : nextEvent s = e := by simp [nextEvent, hs]
  have hdrop : dropEvent s = { s with events := es } := by simp [dropEvent, hs]
  have hpop : sameTransaction s (dropEvent s) := by
    rw [hdrop, sameTransaction_iff]; rfl
  cases step_effect h with
  | host i hi hx =>
    obtain ⟨_, _, _, _, _, hevents, _⟩ := exec_frame hx
    rw [hnext] at hi
    rw [tickLevel_of_hostOp hi, hevents, hdrop]
    exact ⟨rfl, hpop.trans (exec_busy_sameTransaction (by simpa using hbusy) hx)⟩
  | tick l he =>
    obtain rfl : e = .tick l := hnext.symm.trans he
    obtain ⟨_, _, _, _, _, _, _, _, _, _, _, _, _, _, hevents, _⟩ := tick_frame l (dropEvent s)
    rw [hevents, hdrop]
    exact ⟨rfl, hdrop ▸ hpop.tick l⟩
  | reset he => exact absurd (hnext.symm.trans he) hreset
  | elsewhere a he _ =>
    obtain rfl : e = .bus a := hnext.symm.trans he
    exact ⟨by rw [hdrop], hpop⟩

/-- A run that ends in a state begins with a step to a state. -/
theorem exists_step_of_run_succ {M : Host.Core} {k : Nat} {s t : M.State} (h : M.run (k + 1) s = .next t) :
    ∃ u, M.step s = .next u ∧ M.run k u = .next t := by
  rw [Host.Core.run] at h
  split at h
  case h_1 u hu => exact ⟨u, hu, h⟩
  all_goals cases h

/-- A run from inside a transaction, up to its RESTORE tick, leaves what its ticks alone leave. -/
theorem run_sameTransaction {s u v : State} {n : Nat} {es : List Event} (hu : s.OnCourse n u)
    (hes : u.events = es) (hreset : .reset ∉ es) (h : core.run es.length u = .next v)
    (hn : n + (es.filterMap tickLevel).length ≤ s.ticksToRestore) :
    sameTransaction (runTicks (es.filterMap tickLevel) u) v := by
  induction es generalizing u n with
  | nil =>
    obtain rfl : u = v := Host.Outcome.next.inj h
    exact .refl u
  | cons e es ih =>
    obtain ⟨w, hstep, hrun⟩ := exists_step_of_run_succ h
    have hsplit : (e :: es).filterMap tickLevel = (tickLevel e).toList ++ es.filterMap tickLevel := by
      cases e <;> rfl
    rw [List.mem_cons, not_or] at hreset
    rw [hsplit, List.length_append] at hn
    obtain ⟨hevents, hsame⟩ := step_busy_sameTransaction hes hu.busy (Ne.symm hreset.1) hstep
    have hw := (runTicks_onCourse (tickLevel e).toList hu (by omega)).congr hsame
    have hrest := ih hw hevents hreset.2 hrun (by omega)
    rw [hsplit, runTicks, List.foldl_append]
    exact (hsame.runTicks _).trans hrest

end Sys2Proof.Machine

/-! ## The statements -/

/-- Settles O36: the transaction goes through the states its ticks alone lead to, and these stay on the course. -/
theorem timelineHoldsUnderAnyHostAccess : Obligations.TimelineHoldsUnderAnyHostAccess := by
  intro s u v es hinv hidle hstart hreset hrun hticks
  have hlength : (es.filterMap tickLevel).length = es.countP isTick := by
    rw [List.length_filterMap_eq_countP]
    exact List.countP_congr fun e _ => by rw [tickLevel_isSome]
  obtain rfl : unlessBusyCommand (acceptStart s) s = u := Host.Outcome.next.inj hstart
  rw [unlessBusyCommand_idle _ hidle] at hrun ⊢
  have hcourse := acceptStart_onCourse hinv.startLow_floor
  have hlisted : sameTransaction (acceptStart s) { acceptStart s with events := es } :=
    (sameTransaction_iff _ _).mpr rfl
  rw [← hlength] at hticks ⊢
  have hsame := (hlisted.runTicks _).trans
    (run_sameTransaction (es := es) (hcourse.congr hlisted) rfl hreset hrun (by omega))
  have hend := (runTicks_onCourse _ hcourse (by omega)).congr hsame
  rw [Nat.zero_add] at hend
  exact ⟨hend.onTimeline, hsame⟩

/-- Settles O6, by where the window lies and where its words do. -/
theorem busAccessReachesItsRegister : Obligations.BusAccessReachesItsRegister := by
  refine ⟨fun s k write wdata es hs => ?_, fun s a es hs hout => ?_⟩
  · rw [step_listed hs]
    exact runBus_register k write wdata _
  · rw [step_listed hs]
    exact runBus_outside hout _

/-- Settles O7: an event is refused or completes by `undefinedBus` alone. -/
theorem onlyUndefinedAccessesAreRefused : Obligations.OnlyUndefinedAccessesAreRefused := by
  intro s
  rw [← undefinedBus_iff, Bool.not_eq_true]
  exact ⟨fun h => takeEvent_refused h _, fun h => takeEvent_completes h _⟩

/-- Settles O8: the access reaches word index `k`, and there it is a reserved one. -/
theorem reservedIndicesOverTheBus : Obligations.ReservedIndicesOverTheBus := by
  intro s k wdata es hlow hhigh
  obtain ⟨idx, rfl⟩ : ∃ idx : Index, k = idx.toNat := ⟨BitVec.ofNat 5 k, by simp; omega⟩
  refine ⟨fun hs => ?_, fun hs => ?_⟩
  · rw [step_listed hs, takeEvent, runBus_register, decodeWord, accessWrite_accessWord, accessIndex_accessWord]
    exact exec_decodeRead_reserved hlow _
  · rw [step_listed hs, takeEvent, runBus_register, decodeWord, accessWrite_accessWord, accessIndex_accessWord,
      accessData_accessWord]
    exact exec_decodeWrite_reserved hlow _ _

/-- Settles O16: the answer of such a read does not depend on the answer before it. -/
theorem readsButThePopAreRepeatable : Obligations.ReadsButThePopAreRepeatable := by
  intro i s hread hpop
  obtain ⟨v, hv, hrepeat⟩ := exec_read hread hpop s
  exact ⟨v, hv, (hrepeat v).trans hv⟩

end

section
/-! SUPPORT. The proofs of the statements of 30_encoding.md: what the decoder reads encodes back to the access
(R80, R82), the rows of the opcode table share no access word (R81), and the round trip through words and bytes. -/

open Sys2Proof Sys2Proof.Machine

namespace Sys2Proof

/-! ## What the decoder reads (30_encoding.md R80 to R85) -/

/-- Operation `i` is well formed and `a` is its access word. -/
def EncodedBy (i : Instr) (a : AccessWord) : Prop := wellFormed i = true ∧ encodeWord i = a

/-- The reserved command row whose highest bit set is `k`, 3 to 31 (R84). -/
def topBitRow : Nat → Word → Instr
  | 3 => .cmdRsvdB3
  | 4 => .cmdRsvdB4
  | 5 => .cmdRsvdB5
  | 6 => .cmdRsvdB6
  | 7 => .cmdRsvdB7
  | 8 => .cmdRsvdB8
  | 9 => .cmdRsvdB9
  | 10 => .cmdRsvdB10
  | 11 => .cmdRsvdB11
  | 12 => .cmdRsvdB12
  | 13 => .cmdRsvdB13
  | 14 => .cmdRsvdB14
  | 15 => .cmdRsvdB15
  | 16 => .cmdRsvdB16
  | 17 => .cmdRsvdB17
  | 18 => .cmdRsvdB18
  | 19 => .cmdRsvdB19
  | 20 => .cmdRsvdB20
  | 21 => .cmdRsvdB21
  | 22 => .cmdRsvdB22
  | 23 => .cmdRsvdB23
  | 24 => .cmdRsvdB24
  | 25 => .cmdRsvdB25
  | 26 => .cmdRsvdB26
  | 27 => .cmdRsvdB27
  | 28 => .cmdRsvdB28
  | 29 => .cmdRsvdB29
  | 30 => .cmdRsvdB30
  | _ => .cmdRsvdB31

theorem inRange_iff {lo hi n : Nat} : inRange lo hi n = true ↔ lo ≤ n ∧ n ≤ hi := by
  simp [inRange]

theorem topBitIs_iff_log2 {w : Word} (hw : w.toNat ≠ 0) (k : Nat) : topBitIs k w = true ↔ w.toNat.log2 = k := by
  have hpos := Nat.two_pow_pos (k + 1)
  rw [Nat.log2_eq_iff hw, topBitIs, inRange_iff]
  omega

theorem wellFormed_topBitRow {k : Nat} (hlow : 3 ≤ k) (hhigh : k ≤ 31) (w : Word) :
    wellFormed (topBitRow k w) = topBitIs k w := by
  interval_cases k <;> rfl

theorem encodeWord_topBitRow (k : Nat) (w : Word) : encodeWord (topBitRow k w) = encodeCommand w := by
  unfold topBitRow
  split <;> rfl

/-- One bound of the decoder's chain: the words from `2 ^ k` up to it have `k` as their highest bit set. -/
theorem ite_topBitRow {w : Word} {rest : Instr} (k : Nat) (hlow : ¬ w.toNat < 2 ^ k)
    (hrest : ¬ w.toNat < 2 ^ (k + 1) → rest = topBitRow w.toNat.log2 w) :
    (if w.toNat < 2 ^ (k + 1) then topBitRow k w else rest) = topBitRow w.toNat.log2 w := by
  have hpos := Nat.two_pow_pos k
  split_ifs with h
  · rw [(Nat.log2_eq_iff (by omega)).mpr ⟨by omega, h⟩]
  · exact hrest h

/-- Behind the eight lowest command words, the decoder's chain of bounds finds the highest bit set. -/
theorem decodeCommand_eq_topBitRow {w : Word} (h : ¬ w.toNat < 8) :
    decodeCommand w = topBitRow w.toNat.log2 w := by
  have htop : ¬ w.toNat < 2 ^ 31 → Instr.cmdRsvdB31 w = topBitRow w.toNat.log2 w := fun h => by
    rw [(Nat.log2_eq_iff (by omega)).mpr ⟨not_lt.mp h, w.isLt⟩]
    rfl
  unfold decodeCommand
  split
  iterate 6 · omega
  rw [if_neg h]
  exact
    ite_topBitRow 3 h fun h => ite_topBitRow 4 h fun h => ite_topBitRow 5 h fun h => ite_topBitRow 6 h fun h =>
    ite_topBitRow 7 h fun h => ite_topBitRow 8 h fun h => ite_topBitRow 9 h fun h => ite_topBitRow 10 h fun h =>
    ite_topBitRow 11 h fun h => ite_topBitRow 12 h fun h => ite_topBitRow 13 h fun h => ite_topBitRow 14 h fun h =>
    ite_topBitRow 15 h fun h => ite_topBitRow 16 h fun h => ite_topBitRow 17 h fun h => ite_topBitRow 18 h fun h =>
    ite_topBitRow 19 h fun h => ite_topBitRow 20 h fun h => ite_topBitRow 21 h fun h => ite_topBitRow 22 h fun h =>
    ite_topBitRow 23 h fun h => ite_topBitRow 24 h fun h => ite_topBitRow 25 h fun h => ite_topBitRow 26 h fun h =>
    ite_topBitRow 27 h fun h => ite_topBitRow 28 h fun h => ite_topBitRow 29 h fun h =>
    ite_topBitRow 30 h htop

/-- A reserved command word with highest bit `k` decodes to the row of that bit. -/
theorem decodeCommand_of_topBitIs {k : Nat} {w : Word} (hk : 3 ≤ k) (h : topBitIs k w = true) :
    decodeCommand w = topBitRow k w := by
  have hlow : 2 ^ k ≤ w.toNat := (inRange_iff.mp h).1
  have hk8 : 2 ^ 3 ≤ 2 ^ k := Nat.pow_le_pow_right (by decide) hk
  rw [decodeCommand_eq_topBitRow (by omega), (topBitIs_iff_log2 (by omega) k).mp h]

theorem decodeRead_encodedBy (idx : Index) : EncodedBy (decodeRead idx) (encodeRead idx) := by
  unfold EncodedBy
  revert idx
  decide

theorem decodeCommand_encodedBy (w : Word) : EncodedBy (decodeCommand w) (encodeCommand w) := by
  by_cases h : w.toNat < 8
  · obtain ⟨n, rfl⟩ : ∃ n : Fin 8, w = BitVec.ofNat 32 n := ⟨⟨w.toNat, h⟩, by simp⟩
    unfold EncodedBy
    revert n
    decide
  · have hlow : 3 ≤ w.toNat.log2 := (Nat.le_log2 (by omega)).mpr (by omega)
    have hhigh : w.toNat.log2 < 32 := (Nat.log2_lt (by omega)).mpr w.isLt
    rw [decodeCommand_eq_topBitRow h]
    refine ⟨?_, encodeWord_topBitRow _ w⟩
    rw [wellFormed_topBitRow hlow (by omega), topBitIs_iff_log2 (by omega)]

theorem decodeWrite_encodedBy (idx : Index) (wdata : Word) :
    EncodedBy (decodeWrite idx wdata) (encodeWrite idx wdata) := by
  obtain ⟨n, rfl⟩ : ∃ n : Fin 32, idx = BitVec.ofNat 5 n := ⟨idx.toFin, by simp⟩
  fin_cases n
  pick_goal 4 -- word index 3, CMD
  · exact decodeCommand_encodedBy wdata
  all_goals exact ⟨rfl, rfl⟩

/-- The access word without what its operation does not carry: a read's WDATA (R80, R81). -/
def canonicalWord (a : AccessWord) : AccessWord :=
  if accessWrite a then a else encodeRead (accessIndex a)

theorem decodeWord_encodedBy (a : AccessWord) : EncodedBy (decodeWord a) (canonicalWord a) := by
  unfold decodeWord canonicalWord
  split_ifs with h
  · have hparts : encodeWrite (accessIndex a) (accessData a) = a := by
      rw [encodeWrite, ← h, accessWord_parts]
    have hwrite := decodeWrite_encodedBy (accessIndex a) (accessData a)
    rwa [hparts] at hwrite
  · exact decodeRead_encodedBy (accessIndex a)

/-! ## The rows of the table (30_encoding.md R81) -/

/-- Two rows ask for different bits where both of them look. -/
def OpcodeRow.conflicts (r r' : OpcodeRow) : Bool := r.pattern &&& r'.mask != r'.pattern &&& r.mask

theorem not_takes_of_conflicts {r r' : OpcodeRow} (h : r.conflicts r' = true) {a : AccessWord}
    (ht : r.takes a = true) : r'.takes a = false := by
  rw [Bool.eq_false_iff]
  intro ht'
  simp only [OpcodeRow.conflicts, OpcodeRow.takes, bne_iff_ne, beq_iff_eq] at h ht ht'
  exact h (by rw [← ht, ← ht', BitVec.and_assoc, BitVec.and_comm r.mask, BitVec.and_assoc])

/-- The table's 77 rows conflict two by two. -/
theorem opcodeTable_conflicts : opcodeTable.Pairwise fun r r' => r.conflicts r' = true := by
  decide

theorem rowOf_mem_opcodeTable (i : Instr) : rowOf i ∈ opcodeTable := by
  cases i <;> exact of_decide_eq_true rfl

/-- Rows that conflict leave a word to at most one of them. -/
theorem filter_takes_eq_singleton {rows : List OpcodeRow} (hrows : rows.Pairwise fun r r' => r.conflicts r' = true)
    {r : OpcodeRow} (hr : r ∈ rows) {a : AccessWord} (ht : r.takes a = true) :
    rows.filter (fun r' => r'.takes a) = [r] := by
  induction rows with
  | nil => cases hr
  | cons head rest ih =>
    obtain ⟨hhead, hrest⟩ := List.pairwise_cons.mp hrows
    obtain rfl | hr := List.mem_cons.mp hr
    · have hnone : rest.filter (fun r' => r'.takes a) = [] :=
        List.filter_eq_nil_iff.mpr fun r' hr' => by simp [not_takes_of_conflicts (hhead r' hr') ht]
      rw [List.filter_cons, if_pos ht, hnone]
    · have hskip : ¬ head.takes a = true := fun htf => by
        rw [not_takes_of_conflicts (hhead r hr) htf] at ht
        cases ht
      rw [List.filter_cons, if_neg hskip, ih hrest hr]

/-- A row whose mask leaves WDATA out takes a word whatever its WDATA is. -/
theorem takes_of_mask {r : OpcodeRow} (h : accessData r.mask = 0) (w : Bool) (idx : Index) (d d' : Word) :
    r.takes (accessWord w idx d) = r.takes (accessWord w idx d') := by
  rw [OpcodeRow.takes, OpcodeRow.takes, ← accessWord_parts r.mask, h, accessWord_and, accessWord_and]
  simp

/-- A read is selected by IDX alone (R81). -/
theorem decodeRead_mask (idx : Index) : accessData (rowOf (decodeRead idx)).mask = 0 := by
  revert idx
  decide

end Sys2Proof

namespace Sys2Proof.Laws.EncodesToRow

/-- Every operation's own row takes its access word. -/
theorem forall_instr (i : Instr) : Statement i := by
  cases i
  exacts [
    rdId, rdParam, rdCtrl, rdCmd, rdStatus, rdStartLow, rdRelease, rdWindow, rdThresh, rdEdgeCount, rdBitcount,
    rdTsData, rdFifoLevel, rdRawLo, rdRawHi, rdHum, rdTemp, rdTimer, rdRsvd18To19 _, rdRsvd20To23 _,
    rdRsvd24To31 _, wrId _, wrParam _, wrCtrl _, wrStatus _, wrStartLow _, wrRelease _, wrWindow _, wrThresh _,
    wrEdgeCount _, wrBitcount _, wrTsData _, wrFifoLevel _, wrRawLo _, wrRawHi _, wrHum _, wrTemp _, wrTimer _,
    wrRsvd18To19 _ _, wrRsvd20To23 _ _, wrRsvd24To31 _ _, nop, start, decode, interpret, clear, cmdRsvdB31 _,
    cmdRsvdB30 _, cmdRsvdB29 _, cmdRsvdB28 _, cmdRsvdB27 _, cmdRsvdB26 _, cmdRsvdB25 _, cmdRsvdB24 _,
    cmdRsvdB23 _, cmdRsvdB22 _, cmdRsvdB21 _, cmdRsvdB20 _, cmdRsvdB19 _, cmdRsvdB18 _, cmdRsvdB17 _,
    cmdRsvdB16 _, cmdRsvdB15 _, cmdRsvdB14 _, cmdRsvdB13 _, cmdRsvdB12 _, cmdRsvdB11 _, cmdRsvdB10 _,
    cmdRsvdB9 _, cmdRsvdB8 _, cmdRsvdB7 _, cmdRsvdB6 _, cmdRsvdB5 _, cmdRsvdB4 _, cmdRsvdB3 _, cmdRsvd6To7 _,
    cmdRsvd5]

end Sys2Proof.Laws.EncodesToRow

namespace Sys2Proof

/-- The row of the operation read takes the access word. -/
theorem rowOf_decodeWord_takes (a : AccessWord) : (rowOf (decodeWord a)).takes a = true := by
  obtain ⟨hwf, hencode⟩ := decodeWord_encodedBy a
  have htakes := Laws.EncodesToRow.forall_instr _ hwf
  rw [hencode, canonicalWord] at htakes
  split_ifs at htakes with h
  · exact htakes
  · have hmask : accessData (rowOf (decodeWord a)).mask = 0 := by
      rw [decodeWord, if_neg h]
      exact decodeRead_mask _
    have hparts : accessWord false (accessIndex a) (accessData a) = a := by
      rw [← Bool.eq_false_of_not_eq_true h, accessWord_parts]
    rwa [encodeRead, takes_of_mask hmask false _ 0 (accessData a), hparts] at htakes

/-! ## The round trip (30_encoding.md R80 to R85) -/

theorem decodeWord_encodeRead (idx : Index) : decodeWord (encodeRead idx) = decodeRead idx := by
  simp [decodeWord, encodeRead]

theorem decodeWord_encodeWrite (idx : Index) (wdata : Word) :
    decodeWord (encodeWrite idx wdata) = decodeWrite idx wdata := by
  simp [decodeWord, encodeWrite]

theorem decodeWord_encodeCommand (w : Word) : decodeWord (encodeCommand w) = decodeCommand w :=
  decodeWord_encodeWrite 3 w

theorem decodeWrite_rsvd18To19 {idx : Index} (h : inRange 18 19 idx.toNat = true) (wdata : Word) :
    decodeWrite idx wdata = .wrRsvd18To19 idx wdata := by
  rw [inRange_iff] at h
  obtain rfl | rfl : idx = 18 ∨ idx = 19 := by bv_omega
  all_goals rfl

theorem decodeWrite_rsvd20To23 {idx : Index} (h : inRange 20 23 idx.toNat = true) (wdata : Word) :
    decodeWrite idx wdata = .wrRsvd20To23 idx wdata := by
  rw [inRange_iff] at h
  obtain rfl | rfl | rfl | rfl : idx = 20 ∨ idx = 21 ∨ idx = 22 ∨ idx = 23 := by bv_omega
  all_goals rfl

theorem decodeWrite_rsvd24To31 {idx : Index} (h : inRange 24 31 idx.toNat = true) (wdata : Word) :
    decodeWrite idx wdata = .wrRsvd24To31 idx wdata := by
  rw [inRange_iff] at h
  unfold decodeWrite
  split
  iterate 24 · omega
  rfl

theorem decodeCommand_rsvd6To7 {w : Word} (h : inRange 6 7 w.toNat = true) :
    decodeCommand w = .cmdRsvd6To7 w := by
  rw [inRange_iff] at h
  obtain rfl | rfl : w = 6 ∨ w = 7 := by bv_omega
  all_goals rfl

/-- Every operation but the reserved blocks is read from its own index or command word; these are read from the
range they cover. -/
theorem decodeWord_encodeWord {i : Instr} (h : wellFormed i = true) : decodeWord (encodeWord i) = i := by
  cases i
  case rdRsvd18To19 idx | rdRsvd20To23 idx | rdRsvd24To31 idx => revert idx; decide
  case wrRsvd18To19 idx wdata => exact (decodeWord_encodeWrite idx wdata).trans (decodeWrite_rsvd18To19 h wdata)
  case wrRsvd20To23 idx wdata => exact (decodeWord_encodeWrite idx wdata).trans (decodeWrite_rsvd20To23 h wdata)
  case wrRsvd24To31 idx wdata => exact (decodeWord_encodeWrite idx wdata).trans (decodeWrite_rsvd24To31 h wdata)
  case cmdRsvd6To7 w => exact (decodeWord_encodeCommand w).trans (decodeCommand_rsvd6To7 h)
  case cmdRsvdB31 w | cmdRsvdB30 w | cmdRsvdB29 w | cmdRsvdB28 w | cmdRsvdB27 w | cmdRsvdB26 w |
      cmdRsvdB25 w | cmdRsvdB24 w | cmdRsvdB23 w | cmdRsvdB22 w | cmdRsvdB21 w | cmdRsvdB20 w |
      cmdRsvdB19 w | cmdRsvdB18 w | cmdRsvdB17 w | cmdRsvdB16 w | cmdRsvdB15 w | cmdRsvdB14 w |
      cmdRsvdB13 w | cmdRsvdB12 w | cmdRsvdB11 w | cmdRsvdB10 w | cmdRsvdB9 w | cmdRsvdB8 w | cmdRsvdB7 w |
      cmdRsvdB6 w | cmdRsvdB5 w | cmdRsvdB4 w | cmdRsvdB3 w =>
    exact (decodeWord_encodeCommand w).trans (decodeCommand_of_topBitIs (by decide) h)
  case nop | start | decode | interpret | clear | cmdRsvd5 => decide
  case rdId | rdParam | rdCtrl | rdCmd | rdStatus | rdStartLow | rdRelease | rdWindow | rdThresh | rdEdgeCount |
      rdBitcount | rdTsData | rdFifoLevel | rdRawLo | rdRawHi | rdHum | rdTemp | rdTimer => decide
  all_goals exact decodeWord_encodeWrite _ _

/-! ## Bytes (log 10) -/

theorem length_bytesOf (n v : Nat) : (bytesOf n v).length = n := by
  induction n generalizing v with
  | zero => rfl
  | succ n ih => rw [bytesOf, List.length_cons, ih]

/-- The bytes of a number that fits spell it. -/
theorem numberOf_bytesOf {n v : Nat} (h : v < 256 ^ n) : numberOf (bytesOf n v) = v := by
  induction n generalizing v with
  | zero => exact (Nat.lt_one_iff.mp h).symm
  | succ n ih =>
    have hrest : v / 256 < 256 ^ n := Nat.div_lt_of_lt_mul (by rwa [Nat.pow_succ'] at h)
    rw [bytesOf, numberOf, ih hrest, BitVec.toNat_ofNat]
    exact Nat.mod_add_div v 256

/-- The five bytes of an access word decode to what the access word does. -/
theorem decodeBytes_bytesOf (a : AccessWord) : decodeBytes (bytesOf 5 a.toNat) = .ok (decodeWord a) := by
  have ha := a.isLt
  have hnumber : numberOf (bytesOf 5 a.toNat) = a.toNat := numberOf_bytesOf (by omega)
  rw [decodeBytes, if_neg (by simp [length_bytesOf]), hnumber, if_neg (by omega), BitVec.ofNat_toNat,
    BitVec.setWidth_eq]

end Sys2Proof

/-! ## The statements -/

/-- Settles O1: the word is read back, and its five bytes spell the word. -/
theorem decodeOfEncodeIsTheOperation : Obligations.DecodeOfEncodeIsTheOperation := by
  intro i hwf
  have hword := decodeWord_encodeWord hwf
  refine ⟨hword, ?_⟩
  rw [encodeBytes, decodeBytes_bytesOf, hword]

/-- Settles O2: the row of the operation read takes the word, and every other row conflicts with it. -/
theorem everyAccessWordIsOneTableRow : Obligations.EveryAccessWordIsOneTableRow := by
  intro a
  obtain ⟨hwf, _⟩ := decodeWord_encodedBy a
  exact ⟨filter_takes_eq_singleton opcodeTable_conflicts (rowOf_mem_opcodeTable _) (rowOf_decodeWord_takes a), hwf⟩

/-- Settles O3: the operation read encodes back to the word without a read's WDATA. -/
theorem encodeOfDecodeIsTheAccessWord : Obligations.EncodeOfDecodeIsTheAccessWord := by
  intro a
  obtain ⟨_, hencode⟩ := decodeWord_encodedBy a
  rw [hencode]
  exact ⟨fun hwrite => if_pos hwrite, fun hread => if_neg (Bool.eq_false_iff.mp hread)⟩

/-- Settles O4, by running the decoder on each word. -/
theorem specWordsDecode : Obligations.SpecWordsDecode := by
  unfold Obligations.SpecWordsDecode
  decide

/-- Settles O5: a listed event is the next step, and the round trip gives the operation of an encoded access. -/
theorem stepRunsTheDecodedOperation : Obligations.StepRunsTheDecodedOperation := by
  intro s es
  refine ⟨fun w hs => ?_, fun level hs => step_listed hs, fun hs => step_listed hs, fun hs => ?_⟩
  · have hstep : step s = exec (decodeWord w) { s with events := es } := step_listed hs
    refine ⟨hstep, fun i hwf hw => ?_⟩
    rw [hstep, hw, decodeWord_encodeWord hwf]
  · simp [step, nextEvent, dropEvent, hs]

end

section
/-! SUPPORT. The proofs of the statements of 40_register_access.md: what every register reads (R101 to R118), what
every write and command leaves (R119 to R140), and what no access changes (R100, R102). -/

open Sys2Proof Sys2Proof.Machine

namespace Sys2Proof.Machine

/-! ## Words put together (30_encoding.md R82) -/

theorem toNat_append_eq_add {m n : Nat} (x : BitVec m) (y : BitVec n) :
    (x ++ y).toNat = x.toNat * 2 ^ n + y.toNat := by
  rw [BitVec.toNat_append, ← Nat.shiftLeft_add_eq_or_of_lt y.isLt, Nat.shiftLeft_eq]

/-- Three fields above one another: the number they spell. -/
theorem toNat_append_three {m n k : Nat} (x : BitVec m) (y : BitVec n) (z : BitVec k) :
    (x ++ y ++ z).toNat = (x.toNat * 2 ^ n + y.toNat) * 2 ^ k + z.toNat := by
  rw [toNat_append_eq_add, toNat_append_eq_add]

theorem zext_toNat (v : Half) : (zext v).toNat = v.toNat :=
  BitVec.toNat_setWidth_of_le (by decide)

theorem paramWord_toNat (s : State) : s.paramWord.toNat = s.fifoDepth + 0x100 := by
  have hdepth := fifoDepth_bounds s
  have h : s.paramWord.toNat = (0 * 2 ^ 8 + 1) * 2 ^ 8 + (BitVec.ofNat 8 s.fifoDepth).toNat :=
    toNat_append_three (0 : Half) Config.revision _
  rw [h, BitVec.toNat_ofNat]
  omega

theorem ctrlWord_toNat (s : State) : s.ctrlWord.toNat =
    (if s.model = .dht22 then 1 else 0) + (if s.csumMode = .modTest then 2 else 0) + (if s.ie then 4 else 0) := by
  unfold State.ctrlWord
  cases s.model <;> cases s.csumMode <;> cases s.ie <;> rfl

theorem fifoLevelWord_toNat (s : State) : s.fifoLevelWord.toNat = s.rptr % 256 * 256 + s.fill % 256 := by
  have h : s.fifoLevelWord.toNat = _ := toNat_append_three (0 : Half) (BitVec.ofNat 8 s.rptr) (BitVec.ofNat 8 s.fill)
  rw [h, BitVec.toNat_ofNat, BitVec.toNat_ofNat]
  simp

/-- FIFO_LEVEL shows RPTR and S whole, since FIFO_DEPTH is at most 255 (10_state.md R37). -/
theorem fifoLevelWord_toNat_of_inv {s : State} (h : s.Inv) : s.fifoLevelWord.toNat = s.rptr * 256 + s.fill := by
  have hdepth := fifoDepth_bounds s
  have hrptr := h.rptr_le_fill
  have hfill := h.fill_le_depth
  rw [fifoLevelWord_toNat]
  omega

/-! ## The frame bytes (10_state.md R39) -/

theorem rawLoWord_toNat (s : State) : s.rawLoWord.toNat =
    s.raw.b3.toNat * 2 ^ 24 + s.raw.b2.toNat * 2 ^ 16 + s.raw.b1.toNat * 2 ^ 8 + s.raw.b0.toNat := by
  have h : s.rawLoWord.toNat = _ := toNat_append_eq_add (s.raw.b3 ++ s.raw.b2 ++ s.raw.b1) s.raw.b0
  rw [h, toNat_append_three]
  omega

/-- CSUM_CALC is the untruncated sum modulo 256 (43_checksum.md R190). -/
theorem sum8_toNat (f : RawFrame) : f.sum8.toNat = f.fullSum % 256 := by
  simp [RawFrame.sum8, RawFrame.fullSum, BitVec.toNat_add]

theorem rawHiWord_toNat (s : State) : s.rawHiWord.toNat = s.raw.fullSum % 256 * 256 + s.raw.b4.toNat := by
  have h : s.rawHiWord.toNat = _ := toNat_append_three (0 : Half) s.raw.sum8 s.raw.b4
  rw [h, sum8_toNat]
  simp

theorem lowHalf_toNat (w : Word) : (lowHalf w).toNat = w.toNat % 65536 := by simp [lowHalf]

theorem byteOf_toNat (k : Nat) (w : Word) : (byteOf k w).toNat = w.toNat / 2 ^ (8 * k) % 256 := by
  simp [byteOf, Nat.shiftRight_eq_div_pow]

/-- A word is its four bytes. -/
theorem toNat_eq_bytes (w : Word) : w.toNat =
    (byteOf 3 w).toNat * 2 ^ 24 + (byteOf 2 w).toNat * 2 ^ 16 + (byteOf 1 w).toNat * 2 ^ 8 + (byteOf 0 w).toNat := by
  have hw := w.isLt
  simp only [byteOf_toNat]
  omega

/-- The unsigned maximum with START_LOW's floor (40_register_access.md R124). -/
theorem startLowOperand_toNat (w : Word) : (startLowOperand w).toNat = max (w.toNat % 65536) 18000 := by
  have hfloor : startLowFloor.toNat = 18000 := rfl
  unfold startLowOperand
  split_ifs with h <;> rw [BitVec.lt_def, lowHalf_toNat, hfloor] at h
  · omega
  · rw [lowHalf_toNat]; omega

/-! ## STATUS (10_state.md R27) -/

/-- Bits 0 to 18 of STATUS, the least significant first; the bits above are reserved. -/
def State.statusBits (s : State) : List Bool :=
  [s.busy, s.done, s.valid, s.cmdErr, s.wrErr, s.rdErr, s.ovf, s.irq,
    s.result.code.getLsbD 0, s.result.code.getLsbD 1, s.result.code.getLsbD 2, false,
    s.phase.code.getLsbD 0, s.phase.code.getLsbD 1, s.phase.code.getLsbD 2, false, s.line, s.oe, s.out]

theorem statusWord_getLsbD (s : State) (k : Nat) : s.statusWord.getLsbD k = s.statusBits.getD k false := by
  unfold State.statusWord
  change BitVec.getLsbD (w := 13 + 1 + 1 + 1 + 1 + 3 + 1 + 3 + 1 + 1 + 1 + 1 + 1 + 1 + 1 + 1) _ k = _
  simp only [BitVec.getLsbD_append]
  obtain hk | hk := Nat.lt_or_ge k 19
  · interval_cases k <;> simp [State.statusBits]
  · obtain ⟨j, rfl⟩ := Nat.exists_eq_add_of_le' hk
    simp [State.statusBits]

/-- Three bits of STATUS that show a code are a field with its number. -/
theorem statusWord_field {s : State} {k : Nat} {c : BitVec 3}
    (h : ∀ i < 3, s.statusBits.getD (k + i) false = c.getLsbD i) : s.statusWord.toNat / 2 ^ k % 8 = c.toNat := by
  have hfield : s.statusWord.extractLsb' k 3 = c := by
    apply BitVec.eq_of_getLsbD_eq
    intro i hi
    rw [BitVec.getLsbD_extractLsb', statusWord_getLsbD, h i hi]
    simp [hi]
  rw [← hfield, BitVec.extractLsb'_toNat, Nat.shiftRight_eq_div_pow]

/-! ## Write one to clear (40_register_access.md R123) -/

theorem w1c_iff (written flag : Bool) : w1c written flag = true ↔ flag = true ∧ written = false := by
  simp [w1c]

theorem w1c_self (flag : Bool) : w1c flag flag = false := by
  simp [w1c]

/-- Clearing DONE drops IRQ. -/
theorem clearFlags_irq {w : Word} (h : w.getLsbD 1 = true) (s : State) : (clearFlags w s).irq = false := by
  simp [State.irq, w1c, h]

/-- Writing back the word read clears every sticky flag. -/
theorem clearFlags_statusWord (s : State) : clearFlags s.statusWord s =
    { s with done := false, cmdErr := false, wrErr := false, rdErr := false, ovf := false } := by
  have hdone : s.statusWord.getLsbD 1 = s.done := statusWord_getLsbD s 1
  have hcmd : s.statusWord.getLsbD 3 = s.cmdErr := statusWord_getLsbD s 3
  have hwr : s.statusWord.getLsbD 4 = s.wrErr := statusWord_getLsbD s 4
  have hrd : s.statusWord.getLsbD 5 = s.rdErr := statusWord_getLsbD s 5
  have hovf : s.statusWord.getLsbD 6 = s.ovf := statusWord_getLsbD s 6
  simp only [clearFlags, hdone, hcmd, hwr, hrd, hovf, w1c_self]

/-! ## The guards (40_register_access.md R100, R122) -/

section
variable {i : Instr} {s u : State}

theorem exec_write_idle (h : exec i s = .next (unlessBusyWrite u s)) (hidle : s.phase = .idle) :
    exec i s = .next u := by
  rw [h, unlessBusyWrite_idle u hidle]

theorem onlyWrErr_of_busy (h : exec i s = .next (unlessBusyWrite u s)) (hbusy : s.phase ≠ .idle) :
    OnlyWrErr i s := by
  rw [OnlyWrErr, h, unlessBusyWrite_busy u hbusy, flagWrErr]

theorem exec_command_idle (h : exec i s = .next (unlessBusyCommand u s)) (hidle : s.phase = .idle) :
    exec i s = .next u := by
  rw [h, unlessBusyCommand_idle u hidle]

theorem onlyCmdErr_of_busy (h : exec i s = .next (unlessBusyCommand u s)) (hbusy : s.phase ≠ .idle) :
    OnlyCmdErr i s := by
  rw [OnlyCmdErr, h, unlessBusyCommand_busy u hbusy, flagCmdErr]

end

/-! ## Configuration (40_register_access.md R121) -/

theorem SensorModel.ofBit_eq_ite (b : Bool) : SensorModel.ofBit b = if b then .dht22 else .dht11 := by
  cases b <;> rfl

theorem CsumMode.ofBit_eq_ite (b : Bool) : CsumMode.ofBit b = if b then .modTest else .andTest := by
  cases b <;> rfl

/-! ## Command words (40_register_access.md R122, R139) -/

theorem onlyCmdErr_topBitRow (k : Nat) (w : Word) (s : State) : OnlyCmdErr (topBitRow k w) s := by
  unfold topBitRow
  split <;> rfl

/-- The command words from 5 up are reserved. -/
theorem onlyCmdErr_decodeCommand {w : Word} (h : 5 ≤ w.toNat) (s : State) : OnlyCmdErr (decodeCommand w) s := by
  by_cases h8 : w.toNat < 8
  · obtain rfl | rfl | rfl : w = 5 ∨ w = 6 ∨ w = 7 := by bv_omega
    all_goals rfl
  · rw [decodeCommand_eq_topBitRow h8]
    exact onlyCmdErr_topBitRow _ w s

/-- The four commands that BUSY rejects with CMDERR and nothing else. -/
theorem exec_command_eq_ite {i : Instr} (hi : i = .start ∨ i = .decode ∨ i = .interpret ∨ i = .clear)
    (s : State) :
    exec i s = if s.phase ≠ .idle then .next { s with cmdErr := true } else exec i s := by
  split_ifs with hbusy
  · obtain rfl | rfl | rfl | rfl := hi
    all_goals exact onlyCmdErr_of_busy rfl hbusy
  · rfl

/-! ## FIFO_DEPTH is fixed (00_scope.md R7) -/

theorem step_extraDepth {s t : State} (h : step s = .next t) : t.extraDepth = s.extraDepth := by
  refine step_keeps (P := fun u => u.extraDepth = s.extraDepth) h rfl (fun _ _ hs => hs) ?_ ?_ ?_
  · intro u i _ hu hx
    obtain ⟨_, _, _, hdepth, _⟩ := exec_frame hx
    exact hdepth.trans hu
  · intro u l hu
    obtain ⟨_, _, _, _, _, _, _, _, _, _, _, hdepth, _⟩ := tick_frame l u
    exact hdepth.trans hu
  · exact fun _ hu => hu

end Sys2Proof.Machine

/-! ## The statements -/

/-- Settles O12: STATUS is its list of bits, and behind the list it reads 0. -/
theorem statusReadShowsEveryField : Obligations.StatusReadShowsEveryField := by
  intro s
  have hbit := statusWord_getLsbD s
  have hresult : s.statusWord.toNat / 2 ^ 8 % 8 = s.result.code.toNat :=
    statusWord_field fun i hi => by interval_cases i <;> rfl
  have hphase : s.statusWord.toNat / 2 ^ 12 % 8 = s.phase.code.toNat :=
    statusWord_field fun i hi => by interval_cases i <;> rfl
  refine ⟨s.statusWord, rfl, hbit 0, hbit 1, hbit 2, hbit 3, hbit 4, hbit 5, hbit 6, hbit 7, ?_, hbit 11, ?_,
    hbit 15, hbit 16, hbit 17, hbit 18, fun k hk => (hbit k).trans (List.getD_eq_default _ _ hk)⟩
  · rw [hresult]; cases s.result <;> rfl
  · rw [hphase]; cases s.phase <;> rfl

/-- Settles O22, by W1C at each of the five bits. -/
theorem wrStatusClearsTheWrittenFlags : Obligations.WrStatusClearsTheWrittenFlags := by
  intro s w
  refine ⟨⟨_, _, _, _, _, rfl, w1c_iff _ _, w1c_iff _ _, w1c_iff _ _, w1c_iff _ _, w1c_iff _ _⟩,
    fun h => ⟨_, rfl, clearFlags_irq h s⟩, ?_⟩
  exact congrArg Host.Outcome.next (clearFlags_statusWord s)

/-- Settles O23: the bytes stored spell the word written, and RAW_LO puts them together again. -/
theorem rawWritesSetTheBytes : Obligations.RawWritesSetTheBytes := by
  intro s w
  refine ⟨fun hidle => ⟨⟨_, _, _, _, exec_write_idle rfl hidle, toNat_eq_bytes w, _, rfl, ?_⟩,
    _, exec_write_idle rfl hidle, by simp [byteOf_toNat]⟩,
    fun hbusy => ⟨onlyWrErr_of_busy rfl hbusy, onlyWrErr_of_busy rfl hbusy⟩⟩
  apply BitVec.eq_of_toNat_eq
  rw [rawLoWord_toNat, toNat_eq_bytes w]

/-- Settles O24: the five lowest command words are the commands, and every other one is reserved. -/
theorem commandWordDispatch : Obligations.CommandWordDispatch := by
  intro s w
  have hdecode : decodeWord (accessWord true 3 w) = decodeCommand w := decodeWord_encodeCommand w
  rw [hdecode]
  by_cases hw : 5 ≤ w.toNat
  · have hreserved : w ≠ 0 ∧ w ≠ 1 ∧ w ≠ 2 ∧ w ≠ 3 ∧ w ≠ 4 := by
      refine ⟨?_, ?_, ?_, ?_, ?_⟩ <;> rintro rfl <;> exact absurd hw (by decide)
    obtain ⟨hnop, hcommands⟩ := hreserved
    rw [if_neg hnop, if_pos hcommands]
    exact onlyCmdErr_decodeCommand hw s
  · obtain rfl | rfl | rfl | rfl | rfl : w = 0 ∨ w = 1 ∨ w = 2 ∨ w = 3 ∨ w = 4 := by bv_omega
    · rfl
    · exact exec_command_eq_ite (.inl rfl) s
    · exact exec_command_eq_ite (.inr (.inl rfl)) s
    · exact exec_command_eq_ite (.inr (.inr (.inl rfl))) s
    · exact exec_command_eq_ite (.inr (.inr (.inr rfl))) s

/-- Settles O56: every operation completes, and while BUSY it is one of those that leave the transaction alone. -/
theorem busyTransactionIsIsolatedFromTheHost : Obligations.BusyTransactionIsIsolatedFromTheHost := by
  intro i s hbusy
  obtain ⟨t, ht⟩ := exec_completes i s
  exact ⟨t, ht, exec_busy_sameTransaction hbusy ht⟩

/-- Settles O59: no step writes the parameter that FIFO_DEPTH and PARAM are computed from. -/
theorem fifoDepthNeverChanges : Obligations.FifoDepthNeverChanges := by
  intro s t h
  have hdepth := fifoDepth_congr (step_extraDepth h)
  exact ⟨hdepth, by rw [State.paramWord, hdepth, State.paramWord], fifoDepth_bounds t⟩

/-- Settles O10: ID and the reserved indices are constants, and PARAM spells REV and FIFO_DEPTH. -/
theorem readsOfConstants : Obligations.ReadsOfConstants := by
  intro s idx
  refine ⟨⟨_, rfl, rfl⟩, ⟨_, rfl, paramWord_toNat s, fun hdepth => ?_⟩, ⟨_, rfl, rfl⟩, ⟨_, rfl, rfl⟩,
    ⟨_, rfl, rfl⟩, ⟨_, rfl, rfl⟩⟩
  apply BitVec.eq_of_toNat_eq
  rw [paramWord_toNat, hdepth]
  rfl

/-- Settles O11: the fields are read zero-extended, and the invariant holds START_LOW at its floor. -/
theorem readsOfConfiguration : Obligations.ReadsOfConfiguration := by
  intro s
  have hrelease : (s.release.setWidth 32).toNat = s.release.toNat := BitVec.toNat_setWidth_of_le (by decide)
  exact ⟨⟨_, rfl, ctrlWord_toNat s⟩,
    ⟨_, rfl, zext_toNat _, fun hinv => (zext_toNat _).symm ▸ hinv.startLow_floor⟩, ⟨_, rfl, hrelease⟩,
    ⟨_, rfl, zext_toNat _⟩, ⟨_, rfl, zext_toNat _⟩⟩

/-- Settles O13: the counters are read zero-extended, and the invariant keeps RPTR and S within a byte. -/
theorem readsOfCounters : Obligations.ReadsOfCounters := by
  intro s
  exact ⟨⟨_, rfl, zext_toNat _⟩, ⟨_, rfl, zext_toNat _⟩,
    ⟨_, rfl, fifoLevelWord_toNat s, fifoLevelWord_toNat_of_inv⟩, ⟨_, rfl, rfl⟩⟩

/-- Settles O14: the words spell the frame bytes and the sum modulo 256. -/
theorem readsOfTheFrame : Obligations.ReadsOfTheFrame := by
  intro s
  exact ⟨⟨_, rfl, rawLoWord_toNat s⟩, ⟨_, rfl, rawHiWord_toNat s⟩⟩

/-- Settles O15: HUM and TEMP are read as stored, and the invariant keeps them at 0 without a success. -/
theorem readsOfResults : Obligations.ReadsOfResults := by
  intro s
  exact ⟨⟨_, rfl, rfl, fun hinv hfailed => (hinv.failed_zero hfailed).1⟩,
    ⟨_, rfl, rfl, fun hinv hfailed => (hinv.failed_zero hfailed).2⟩⟩

/-- Settles O18: each of these operations answers the state it got. -/
theorem ignoredWritesAndNopChangeNothing : Obligations.IgnoredWritesAndNopChangeNothing := by
  intro s w idx
  exact ⟨rfl, rfl, rfl, rfl, rfl, rfl, rfl, rfl, rfl, rfl, rfl, rfl⟩

/-- Settles O19: the BUSY guard, and IRQ is the AND of DONE and the IE bit just written. -/
theorem wrCtrlStoresItsThreeBits : Obligations.WrCtrlStoresItsThreeBits := by
  intro s w
  refine ⟨fun hidle => ⟨_, exec_write_idle rfl hidle, ?_, ?_⟩, onlyWrErr_of_busy rfl⟩
  · rw [SensorModel.ofBit_eq_ite, CsumMode.ofBit_eq_ite]
  · intro hdone hie
    rw [State.irq, hdone, hie]
    rfl

/-- Settles O20: the BUSY guard, and the operand is the maximum with the floor. -/
theorem wrStartLowKeepsTheFloor : Obligations.WrStartLowKeepsTheFloor := by
  intro s w
  exact ⟨fun hidle => ⟨_, exec_write_idle rfl hidle, startLowOperand_toNat w⟩, onlyWrErr_of_busy rfl⟩

/-- Settles O21: the BUSY guard, and the operands are the low bits of WDATA. -/
theorem wrReleaseWindowThreshStoreLowBits : Obligations.WrReleaseWindowThreshStoreLowBits := by
  intro s w
  refine ⟨fun hidle => ⟨⟨_, exec_write_idle rfl hidle, by simp [byteOf_toNat]⟩, ?_, ?_⟩, fun hbusy => ?_⟩
  · exact ⟨_, exec_write_idle rfl hidle, lowHalf_toNat w⟩
  · exact ⟨_, exec_write_idle rfl hidle, lowHalf_toNat w⟩
  · exact ⟨onlyWrErr_of_busy rfl hbusy, onlyWrErr_of_busy rfl hbusy, onlyWrErr_of_busy rfl hbusy⟩

/-- Settles O25: the reserved rows from 8 up are the rows of a highest bit set, 3 to 31. -/
theorem reservedCommandsOnlySetCmdErr : Obligations.ReservedCommandsOnlySetCmdErr := by
  intro s w
  have hrow : ∀ k, OnlyCmdErr (topBitRow k w) s := fun k => onlyCmdErr_topBitRow k w s
  exact ⟨rfl, rfl, hrow 3, hrow 4, hrow 5, hrow 6, hrow 7, hrow 8, hrow 9, hrow 10, hrow 11, hrow 12, hrow 13,
    hrow 14, hrow 15, hrow 16, hrow 17, hrow 18, hrow 19, hrow 20, hrow 21, hrow 22, hrow 23, hrow 24, hrow 25,
    hrow 26, hrow 27, hrow 28, hrow 29, hrow 30, hrow 31⟩

/-- Settles O26: CLEAR is ClearData behind the BUSY guard. -/
theorem clearDiscardsTraceAndResults : Obligations.ClearDiscardsTraceAndResults := by
  intro s
  exact ⟨exec_command_idle rfl, onlyCmdErr_of_busy rfl⟩

end

section
/-! SUPPORT. The proofs of the statements of 41_sampler.md: the tick of each phase as an equation (R144 to R151), the
pop and the push of the FIFO (R154, R155), the trace a capture window leaves (R149, R156), and a transaction from
START to its last tick (R152, R157). -/

open Sys2Proof Sys2Proof.Machine

namespace Sys2Proof.Machine

/-! ## Counting (41_sampler.md R145) -/

theorem toNat_eq_zero_iff {n : Nat} (x : BitVec n) : x.toNat = 0 ↔ x = 0 :=
  (BitVec.toNat_eq (y := 0)).symm

theorem toNat_sub_one {n : Half} (h : n.toNat ≠ 0) : (n - 1).toNat = n.toNat - 1 :=
  BitVec.toNat_sub_of_le (BitVec.le_def.mpr (show 1 ≤ n.toNat by omega))

theorem countUp_eq (s : State) : countUp s = { s with cnt := s.cnt + 1 } := by
  have hcnt : BitVec.ofNat 16 (nextCount s) = s.cnt + 1 := by
    apply BitVec.eq_of_toNat_eq
    simp [nextCount, BitVec.toNat_add]
  rw [countUp, hcnt]

/-! ## One capture sample (41_sampler.md R149, R150) -/

@[simp] theorem sampleLine_extraDepth (l : Bool) (s : State) : (sampleLine l s).extraDepth = s.extraDepth := by
  unfold sampleLine; split_ifs <;> rfl

/-- A 0 after a 1 records CNT. -/
theorem sampleLine_fall {s : State} (h : s.prev = true) :
    sampleLine false s = { recordEdge s.cnt s with prev := false } := by
  simp [sampleLine, h]

/-- Any other sample only sets PREV. -/
theorem sampleLine_noFall {s : State} {l : Bool} (h : ¬ (s.prev = true ∧ l = false)) :
    sampleLine l s = { s with prev := l } := by
  have hno : ¬ (s.prev && !l) = true := by simpa using h
  rw [sampleLine, if_neg hno]

theorem recordEdge_full {s : State} (h : s.fifoDepth ≤ s.fill) (t : Half) :
    recordEdge t s = { s with ovf := true, edgeCount := (recordEdge t s).edgeCount } := by
  have hfull : ¬ s.fill < s.fifoDepth := by omega
  simp [recordEdge, hfull]

theorem recordEdge_room {s : State} (h : s.fill < s.fifoDepth) (t : Half) :
    recordEdge t s = { s with
      edge := (recordEdge t s).edge, fill := s.fill + 1, edgeCount := (recordEdge t s).edgeCount } := by
  simp [recordEdge, h]

theorem edgeAt_recordEdge_fill {s : State} (h : s.fill < s.fifoDepth) (t : Half) :
    (recordEdge t s).edgeAt s.fill = t := by
  rw [edgeAt_recordEdge, if_pos ⟨h, rfl⟩]

theorem edgeAt_recordEdge_of_ne {s : State} {j : Nat} (h : j ≠ s.fill) (t : Half) :
    (recordEdge t s).edgeAt j = s.edgeAt j := by
  rw [edgeAt_recordEdge, if_neg fun hj => h hj.2.symm]

/-- A sample writes PREV and the trace. -/
theorem sampleLine_frame_eq (l : Bool) (s : State) : sampleLine l s = { s with
    prev := l, edge := (sampleLine l s).edge, fill := (sampleLine l s).fill, ovf := (sampleLine l s).ovf
    edgeCount := (sampleLine l s).edgeCount } := by
  unfold sampleLine
  split_ifs <;> rfl

theorem sampleLine_clockTick (l : Bool) (s : State) : sampleLine l (clockTick l s) = clockTick l (sampleLine l s) := by
  by_cases h : s.prev = true ∧ l = false
  · obtain ⟨hprev, rfl⟩ := h
    rw [sampleLine_fall hprev, sampleLine_fall (s := clockTick false s) hprev]
    rfl
  · rw [sampleLine_noFall h, sampleLine_noFall (s := clockTick l s) h]
    rfl

/-- The end of a capture tick writes PHASE and CNT. -/
theorem advanceCapture_frame_eq (s : State) :
    advanceCapture s = { s with phase := (advanceCapture s).phase, cnt := (advanceCapture s).cnt } := by
  unfold advanceCapture
  split_ifs <;> rfl

/-- The end of a capture tick: it counts, or the window is over. -/
theorem advanceCapture_counts {s : State} (h : s.cnt.toNat + 1 < s.window.toNat) :
    advanceCapture s = { s with cnt := s.cnt + 1 } := by
  rw [advanceCapture, if_neg (by simpa [nextCount] using h), countUp_eq]

theorem advanceCapture_ends {s : State} (h : s.window.toNat ≤ s.cnt.toNat + 1) :
    advanceCapture s = { s with phase := .restore, cnt := 0 } := by
  rw [advanceCapture, if_pos (by simpa [nextCount] using h), endCapture]

/-! ## The tick of each phase, as an equation (41_sampler.md R144 to R151) -/

theorem enterCapture_eq (s : State) : enterCapture s = { s with
    oe := false, prev := true, cnt := 0, phase := if s.window = 0 then .restore else .capture } := by
  simp only [enterCapture, toNat_eq_zero_iff]

section
variable {s : State} (l : Bool)

theorem tick_idle (h : s.phase = .idle) : tick l s = { s with timer := s.timer + 1, line := l } :=
  phaseStep_idle (s := clockTick l s) h

theorem tick_start (h : s.phase = .start) : tick l s = tickStart (clockTick l s) :=
  phaseStep_start (s := clockTick l s) h

theorem tick_release (h : s.phase = .release) : tick l s = tickRelease (clockTick l s) :=
  phaseStep_release (s := clockTick l s) h

theorem tick_capture (h : s.phase = .capture) : tick l s = advanceCapture (clockTick l (sampleLine l s)) := by
  rw [← sampleLine_clockTick]
  exact phaseStep_capture (s := clockTick l s) h

end

/-! ## TIMER and the frame of a tick (41_sampler.md R143) -/

theorem phaseStep_clock (l : Bool) (s : State) :
    (phaseStep l s).timer = s.timer ∧ (phaseStep l s).line = s.line := by
  have he := phaseStep_effect l s
  generalize phaseStep l s = t at he ⊢
  cases he with
  | startEnds _ _ hentry => cases hentry <;> simp
  | restore _ => simp [tickRestore]
  | _ => simp

@[simp] theorem tick_timer (l : Bool) (s : State) : (tick l s).timer = s.timer + 1 := (phaseStep_clock l _).1

@[simp] theorem tick_line (l : Bool) (s : State) : (tick l s).line = l := (phaseStep_clock l _).2

/-! ## Runs of ticks -/

@[simp] theorem runTicks_nil (s : State) : runTicks [] s = s := rfl

@[simp] theorem runTicks_cons (l : Bool) (levels : List Bool) (s : State) :
    runTicks (l :: levels) s = runTicks levels (tick l s) := rfl

theorem runTicks_append (levels more : List Bool) (s : State) :
    runTicks (levels ++ more) s = runTicks more (runTicks levels s) :=
  List.foldl_append

theorem TickFrame.refl (s : State) : TickFrame s s := by simp [TickFrame]

theorem TickFrame.trans {s t u : State} (hst : TickFrame s t) (htu : TickFrame t u) : TickFrame s u := by
  unfold TickFrame at *
  simp_all only [and_self]

theorem runTicks_frame (levels : List Bool) (s : State) : TickFrame s (runTicks levels s) := by
  induction levels generalizing s with
  | nil => exact .refl s
  | cons l levels ih => exact (tick_frame l s).trans (ih _)

theorem runTicks_fifoDepth (levels : List Bool) (s : State) : (runTicks levels s).fifoDepth = s.fifoDepth := by
  obtain ⟨_, _, _, _, _, _, _, _, _, _, _, hdepth, _⟩ := runTicks_frame levels s
  exact fifoDepth_congr hdepth

theorem tick_timer_toNat (l : Bool) (s : State) : (tick l s).timer.toNat = (s.timer.toNat + 1) % 2 ^ 32 := by
  rw [tick_timer, BitVec.toNat_add]
  rfl

/-- TIMER counts every tick and wraps (10_state.md R41). -/
theorem runTicks_timer_toNat (levels : List Bool) (s : State) :
    (runTicks levels s).timer.toNat = (s.timer.toNat + levels.length) % 2 ^ 32 := by
  induction levels generalizing s with
  | nil => exact (Nat.mod_eq_of_lt s.timer.isLt).symm
  | cons l levels ih =>
    rw [runTicks_cons, ih, tick_timer_toNat, Nat.mod_add_mod, List.length_cons, Nat.add_assoc, Nat.add_comm 1]

/-! ## Decode() by the edge count (42_frame_decoder.md R170) -/

theorem decodeTrace_noResponse {s : State} (h : s.edgeCount.toNat = 0) :
    decodeTrace s = failDecode .noResponse 0 s := if_pos h

theorem decodeTrace_frame {s : State} (h : s.edgeCount.toNat = 41 ∨ s.edgeCount.toNat = 42) :
    decodeTrace s = checkInterpret { s with raw := packFrame s, bitCount := 40 } := by
  rw [decodeTrace, if_neg (by omega), if_pos h]

theorem decodeTrace_wrongCount {s : State} (h0 : s.edgeCount.toNat ≠ 0) (h41 : s.edgeCount.toNat ≠ 41)
    (h42 : s.edgeCount.toNat ≠ 42) :
    decodeTrace s = failDecode .incorrectByteCount (s.edgeCount - 1) s := by
  rw [decodeTrace, if_neg h0, if_neg (by omega)]

theorem checkInterpret_result_cases (s : State) :
    (checkInterpret s).result = .success ∨ (checkInterpret s).result = .checksumMismatch := by
  rw [checkInterpret_result]
  split_ifs <;> simp

/-- Decode() always comes to a result. -/
theorem decodeTrace_result_ne_none (s : State) : (decodeTrace s).result ≠ .none := by
  have he := decodeTrace_effect s
  generalize decodeTrace s = t at he ⊢
  cases he with
  | frame _ => rw [checkInterpret_result]; split_ifs <;> simp
  | _ => simp

/-- Decode() commutes with an update of fields that each of its three ends commutes with. -/
theorem decodeTrace_comm {s : State} (f : State → State) (hn : (f s).edgeCount = s.edgeCount)
    (hfail : ∀ r n, failDecode r n (f s) = f (failDecode r n s))
    (hframe : checkInterpret { f s with raw := packFrame (f s), bitCount := 40 } =
      f (checkInterpret { s with raw := packFrame s, bitCount := 40 })) :
    decodeTrace (f s) = f (decodeTrace s) := by
  by_cases h0 : s.edgeCount.toNat = 0
  · rw [decodeTrace_noResponse h0, decodeTrace_noResponse (by rwa [hn]), hfail]
  by_cases hcount : s.edgeCount.toNat = 41 ∨ s.edgeCount.toNat = 42
  · rw [decodeTrace_frame hcount, decodeTrace_frame (by rwa [hn]), hframe]
  · obtain ⟨h41, h42⟩ := not_or.mp hcount
    rw [decodeTrace_wrongCount h0 h41 h42,
      decodeTrace_wrongCount (by rwa [hn]) (by rwa [hn]) (by rwa [hn]), hfail, hn]

/-- The RESTORE tick decodes the trace as it stands, drives the pin high and ends the transaction. -/
theorem tick_restore {s : State} (l : Bool) (h : s.phase = .restore) :
    tick l s = { restorePin (clockTick l (decodeTrace s)) with phase := .idle, cnt := 0, done := true } := by
  have hpin : decodeTrace (restorePin (clockTick l s)) = restorePin (clockTick l (decodeTrace s)) :=
    decodeTrace_comm (fun u => restorePin (clockTick l u)) rfl (fun _ _ => rfl) rfl
  rw [← hpin]
  exact phaseStep_restore (s := clockTick l s) h

/-- DECODE of the trace while IDLE leaves what Decode() leaves, with DONE. -/
theorem exec_decode_idle (s : State) :
    exec .decode { s with phase := .idle } = .next (setDone (clearDone { decodeTrace s with phase := .idle })) := by
  have hcommand : decodeTrace (clearDone { s with phase := .idle }) =
      clearDone { decodeTrace s with phase := .idle } :=
    decodeTrace_comm (fun u => clearDone { u with phase := .idle }) rfl (fun _ _ => rfl) rfl
  rw [← hcommand]
  exact exec_command_idle rfl rfl

/-! ## Falling edges (41_sampler.md R149) -/

theorem fallingFrom_cons (before : Bool) (k : Nat) (l : Bool) (levels : List Bool) :
    fallingFrom before k (l :: levels) = fallingFrom before k [l] ++ fallingFrom l (k + 1) levels := by
  simp only [fallingFrom]
  split_ifs <;> rfl

theorem fallingFrom_single_length_le (before : Bool) (k : Nat) (l : Bool) :
    (fallingFrom before k [l]).length ≤ 1 := by
  simp only [fallingFrom]
  split_ifs <;> simp

/-- A constant line does not fall. -/
theorem fallingFrom_replicate (b : Bool) (k n : Nat) : fallingFrom b k (List.replicate n b) = [] := by
  induction n generalizing k with
  | zero => rfl
  | succ n ih => rw [List.replicate_succ, fallingFrom_cons, ih]; cases b <;> rfl

/-! ## The trace in the FIFO (41_sampler.md R149, R150) -/

/-- The FIFO and the counters hold `falls`: N counts them all, EDGE holds the first FIFO_DEPTH of them, and OVF tells
whether there were more. -/
structure State.Traces (s : State) (falls : List Nat) : Prop where
  count : s.edgeCount.toNat = falls.length
  fill_eq : s.fill = min falls.length s.fifoDepth
  stored : ∀ k, k < s.fill → falls[k]? = some (s.edgeAt k).toNat
  ovf_iff : s.ovf = true ↔ s.fifoDepth < falls.length

/-- Traces reads these six fields only. -/
theorem State.Traces.congr {s t : State} {falls : List Nat} (h : s.Traces falls) (he : t.edge = s.edge := by simp)
    (hf : t.fill = s.fill := by simp) (ho : t.ovf = s.ovf := by simp)
    (hn : t.edgeCount = s.edgeCount := by simp) (hd : t.extraDepth = s.extraDepth := by simp)
    (hp : t.edgeEpoch = s.edgeEpoch := by simp) : t.Traces falls := by
  constructor <;> simp only [hf, ho, hn, fifoDepth_congr hd, edgeAt_congr he hp]
  · exact h.count
  · exact h.fill_eq
  · exact h.stored
  · exact h.ovf_iff

theorem traces_nil {s : State} (hf : s.fill = 0) (hn : s.edgeCount = 0) (ho : s.ovf = false) : s.Traces [] where
  count := by simp [hn]
  fill_eq := by simp [hf]
  stored := by simp [hf]
  ovf_iff := by simp [ho]

/-- RecordEdge adds its timestamp at the end, as long as N does not saturate. -/
theorem State.Traces.recordEdge {s : State} {falls : List Nat} (h : s.Traces falls) (t : Half)
    (hlt : falls.length < Config.maxEdgeCount) : (recordEdge t s).Traces (falls ++ [t.toNat]) := by
  obtain ⟨hcount, hfill, hstored, hovf⟩ := h
  have hlength : (falls ++ [t.toNat]).length = falls.length + 1 := by simp
  constructor <;> simp only [recordEdge_fifoDepth, recordEdge_fill, recordEdge_ovf, hlength]
  case count => rw [recordEdge_edgeCount_toNat, hcount]; omega
  case fill_eq => split_ifs <;> omega
  case ovf_iff =>
    split_ifs with hroom
    · rw [hovf]; omega
    · simp only [true_iff]; omega
  case stored =>
    intro k hk
    by_cases hnew : k = s.fill
    · have hroom : s.fill < s.fifoDepth := by by_contra hfull; simp [hfull, hnew] at hk
      have hend : s.fill = falls.length := by omega
      subst hnew
      rw [edgeAt_recordEdge_fill hroom, hend, List.getElem?_concat_length]
    · have hold : k < s.fill := by split_ifs at hk <;> omega
      rw [edgeAt_recordEdge_of_ne hnew, List.getElem?_append_left (by omega), hstored k hold]

/-- A sample adds the falling edge it sees. -/
theorem State.Traces.sampleLine {s : State} {falls : List Nat} (h : s.Traces falls) (l : Bool)
    (hlt : falls.length < Config.maxEdgeCount) :
    (sampleLine l s).Traces (falls ++ fallingFrom s.prev s.cnt.toNat [l]) := by
  by_cases hfall : s.prev = true ∧ l = false
  · obtain ⟨hprev, rfl⟩ := hfall
    rw [sampleLine_fall hprev, hprev]
    exact (h.recordEdge s.cnt hlt).congr
  · have hno : fallingFrom s.prev s.cnt.toNat [l] = [] := by simpa [fallingFrom] using hfall
    rw [sampleLine_noFall hfall, hno, List.append_nil]
    exact h.congr

/-! ## A capture window (41_sampler.md R149, R156) -/

/-- Inside the capture window, with the falling edges `falls` recorded so far. -/
structure State.Capturing (s : State) (falls : List Nat) : Prop where
  phase_eq : s.phase = .capture
  cnt_lt : s.cnt.toNat < s.window.toNat
  traces : s.Traces falls
  falls_le : falls.length ≤ s.cnt.toNat

section
variable {s : State} {falls : List Nat}

theorem State.Capturing.falls_lt_max (h : s.Capturing falls) : falls.length < Config.maxEdgeCount := by
  have hfalls := h.falls_le
  have hcnt := h.cnt_lt
  have hwindow := window_le s
  simp only [Config.maxEdgeCount]
  omega

theorem State.Capturing.tick_traces (h : s.Capturing falls) (l : Bool) :
    (tick l s).Traces (falls ++ fallingFrom s.prev s.cnt.toNat [l]) := by
  rw [tick_capture l h.phase_eq, advanceCapture_frame_eq]
  exact (h.traces.sampleLine l h.falls_lt_max).congr

/-- A sample that is not the window's last leaves the block capturing, with CNT moved on. -/
theorem State.Capturing.tick (h : s.Capturing falls) (l : Bool) (hmore : s.cnt.toNat + 1 < s.window.toNat) :
    (tick l s).Capturing (falls ++ fallingFrom s.prev s.cnt.toNat [l]) ∧ (tick l s).prev = l ∧
      (tick l s).cnt.toNat = s.cnt.toNat + 1 ∧ (tick l s).window = s.window := by
  have htick : Machine.tick l s = { clockTick l (sampleLine l s) with cnt := s.cnt + 1 } := by
    rw [tick_capture l h.phase_eq, advanceCapture_counts (by simpa using hmore)]
    simp
  have hwindow := window_le s
  have hcnt : (Machine.tick l s).cnt.toNat = s.cnt.toNat + 1 := by
    rw [htick, BitVec.toNat_add_of_lt] <;> simp
    omega
  have hw : (Machine.tick l s).window = s.window := by rw [htick]; simp
  have hone := fallingFrom_single_length_le s.prev s.cnt.toNat l
  have hphase : (Machine.tick l s).phase = .capture := by rw [htick]; simpa using h.phase_eq
  refine ⟨⟨hphase, by rwa [hcnt, hw], h.tick_traces l, ?_⟩, by rw [htick]; rfl, hcnt, hw⟩
  rw [hcnt, List.length_append]
  exact Nat.add_le_add h.falls_le hone

theorem State.Capturing.tick_last (h : s.Capturing falls) (l : Bool) (hlast : s.window.toNat ≤ s.cnt.toNat + 1) :
    (Machine.tick l s).phase = .restore := by
  rw [tick_capture l h.phase_eq, advanceCapture_ends (by simpa using hlast)]

/-- Ticks inside the window record the falling edges of its levels, and the last one ends it. -/
theorem State.Capturing.runTicks (levels : List Bool) (h : s.Capturing falls)
    (hlen : s.cnt.toNat + levels.length ≤ s.window.toNat) :
    (runTicks levels s).Traces (falls ++ fallingFrom s.prev s.cnt.toNat levels) ∧
      (runTicks levels s).phase =
        if s.cnt.toNat + levels.length = s.window.toNat then .restore else .capture := by
  induction levels generalizing s falls with
  | nil =>
    have hopen : s.cnt.toNat + 0 ≠ s.window.toNat := Nat.ne_of_lt h.cnt_lt
    refine ⟨by simpa [fallingFrom] using h.traces, ?_⟩
    rw [List.length_nil, if_neg hopen]
    exact h.phase_eq
  | cons l levels ih =>
    rw [List.length_cons] at hlen ⊢
    rw [fallingFrom_cons, ← List.append_assoc]
    by_cases hmore : s.cnt.toNat + 1 < s.window.toNat
    · obtain ⟨hnext, hprev, hcnt, hwindow⟩ := h.tick l hmore
      have hrest := ih hnext (by rw [hcnt, hwindow]; omega)
      rwa [hprev, hcnt, hwindow, Nat.add_assoc, Nat.add_comm 1] at hrest
    · obtain rfl : levels = [] := List.eq_nil_of_length_eq_zero (by omega)
      refine ⟨by simpa [fallingFrom] using h.tick_traces l, ?_⟩
      rw [if_pos (by simp; omega)]
      exact h.tick_last l (by omega)

end

/-! ## A transaction from START to its end (41_sampler.md R152) -/

theorem exec_start_idle {s u : State} (hidle : s.phase = .idle) (h : exec .start s = .next u) : u = acceptStart s :=
  Host.Outcome.next.inj (h.symm.trans (exec_command_idle rfl hidle))

section
variable {s v : State} {n : Nat}

theorem State.OnCourse.phase_before_capture (h : s.OnCourse n v)
    (hn : n < s.startLow.toNat + s.release.toNat) : v.phase = .start ∨ v.phase = .release := by
  obtain ⟨hstart, hrelease, _⟩ := h.onTimeline
  by_cases hpulse : n < s.startLow.toNat
  · exact .inl (hstart hpulse).1
  · exact .inr (hrelease (by omega) hn).1

theorem State.OnCourse.phase_ne_restore (h : s.OnCourse n v) (hn : n < s.ticksToRestore) : v.phase ≠ .restore := by
  intro hp
  have hc := h.course
  rw [hp] at hc
  exact absurd hc.1 (Nat.ne_of_lt hn)

/-- Behind its RESTORE tick a transaction is off the timeline. -/
theorem onTimeline_of_ended (hn : s.ticksToRestore < n) (v : State) : s.OnTimeline n v := by
  unfold State.OnTimeline
  simp only [State.ticksToRestore] at hn ⊢
  exact ⟨by omega, by omega, by omega, by omega⟩

/-- What every tick of the first `m` keeps on the course holds after them. -/
theorem State.OnCourse.runTicks_keeps {m : Nat} {P : State → Prop} (hm : m ≤ s.ticksToRestore)
    (hP : ∀ n v l, s.OnCourse n v → n < m → P v → P (tick l v)) (levels : List Bool) (h : s.OnCourse n v)
    (hn : n + levels.length ≤ m) (hv : P v) : P (runTicks levels v) := by
  induction levels generalizing n v with
  | nil => exact hv
  | cons l levels ih =>
    rw [List.length_cons] at hn
    exact ih (tick_onCourse l h (by omega)) (by omega) (hP n v l h (by omega) hv)

end

/-- Before its RESTORE tick a transaction has no result and no DONE. -/
def State.Undecided (s : State) : Prop := s.done = false ∧ s.result = .none

theorem State.Undecided.tick {s : State} (h : s.Undecided) (hp : s.phase ≠ .restore) (l : Bool) :
    (tick l s).Undecided := by
  have hs : (clockTick l s).Undecided := h
  have he := phaseStep_effect l (clockTick l s)
  rw [Machine.tick]
  generalize phaseStep l (clockTick l s) = t at he ⊢
  cases he with
  | startEnds _ _ hentry => cases hentry <;> exact hs
  | restore hr => exact absurd hr hp
  | _ => simpa [State.Undecided] using hs

/-- Before the capture window no edge is recorded, and the window opens with PREV at 1 (41_sampler.md R148). -/
structure State.Opening (s : State) : Prop where
  traces : s.Traces []
  prev_high : s.phase = .capture → s.prev = true

theorem State.Opening.tick {s : State} (h : s.Opening) (hp : s.phase = .start ∨ s.phase = .release) (l : Bool) :
    (tick l s).Opening := by
  have hs : (clockTick l s).Traces [] := h.traces.congr
  have hcapture : s.phase ≠ .capture := by obtain hp | hp := hp <;> simp [hp]
  have hrestore : s.phase ≠ .restore := by obtain hp | hp := hp <;> simp [hp]
  have he := phaseStep_effect l (clockTick l s)
  rw [Machine.tick]
  generalize phaseStep l (clockTick l s) = t at he ⊢
  cases he with
  | idle hi => exact ⟨hs, fun hc => absurd hc hcapture⟩
  | startCounts _ _ => exact ⟨hs.congr, fun hc => absurd hc hcapture⟩
  | releaseCounts _ _ => exact ⟨hs.congr, fun hc => absurd hc hcapture⟩
  | startEnds _ _ hentry =>
    cases hentry with
    | release _ => exact ⟨hs.congr, nofun⟩
    | capture => exact ⟨hs.congr, fun _ => rfl⟩
  | releaseEnds _ _ => exact ⟨hs.congr, fun _ => rfl⟩
  | captureCounts hc _ => exact absurd hc hcapture
  | captureEnds hc _ => exact absurd hc hcapture
  | restore hr => exact absurd hr hrestore

section
variable {s : State} (hfloor : 18000 ≤ s.startLow.toNat)
include hfloor

theorem acceptStart_undecided {levels : List Bool} (hlen : levels.length ≤ s.ticksToRestore) :
    (runTicks levels (acceptStart s)).Undecided :=
  (acceptStart_onCourse hfloor).runTicks_keeps (Nat.le_refl _)
    (fun _ _ l hv hn hu => hu.tick (hv.phase_ne_restore hn) l) levels (by omega) ⟨rfl, rfl⟩

theorem acceptStart_opening {before : List Bool} (hlen : before.length = s.startLow.toNat + s.release.toNat) :
    (runTicks before (acceptStart s)).Opening :=
  (acceptStart_onCourse hfloor).runTicks_keeps (m := s.startLow.toNat + s.release.toNat)
    (by simp [State.ticksToRestore]) (fun _ _ l hv hn hu => hu.tick (hv.phase_before_capture hn) l) before (by omega)
    ⟨traces_nil rfl rfl rfl, nofun⟩

/-- After `L + R + W` ticks the RESTORE tick is next, and the FIFO holds the falling edges of the window. -/
theorem acceptStart_traces {before window : List Bool}
    (hbefore : before.length = s.startLow.toNat + s.release.toNat) (hwindow : window.length = s.window.toNat) :
    (runTicks (before ++ window) (acceptStart s)).Traces (fallingEdges window) ∧
      (runTicks (before ++ window) (acceptStart s)).phase = .restore := by
  obtain ⟨htraces, hprev⟩ := acceptStart_opening hfloor hbefore
  have hcourse := runTicks_onCourse before (acceptStart_onCourse hfloor)
    (by simp only [State.ticksToRestore]; omega)
  rw [Nat.zero_add, hbefore] at hcourse
  rw [runTicks_append]
  generalize runTicks before (acceptStart s) = v at *
  obtain ⟨_, _, hopen, hend⟩ := hcourse.onTimeline
  have hw := hcourse.window_eq
  by_cases hempty : s.window.toNat = 0
  · obtain rfl : window = [] := List.eq_nil_of_length_eq_zero (by omega)
    exact ⟨htraces, (hend (by simp [State.ticksToRestore, hempty])).1⟩
  · obtain ⟨hphase, _⟩ := hopen (Nat.le_refl _) (by simp only [State.ticksToRestore]; omega)
    have hc := hcourse.course
    rw [hphase] at hc
    have hcnt : v.cnt.toNat = 0 := by have := hc.1; omega
    have hcapturing : v.Capturing [] := ⟨hphase, by rw [hcnt, hw]; omega, htraces, by simp⟩
    obtain ⟨hfalls, hrestore⟩ := hcapturing.runTicks window (by rw [hcnt, hw]; omega)
    rw [hprev hphase, hcnt] at hfalls
    rw [hcnt, hw, if_pos (by omega)] at hrestore
    exact ⟨hfalls, hrestore⟩

/-- The last tick of a transaction is its RESTORE tick, on the falling edges of the window. -/
theorem acceptStart_last_tick {levels : List Bool} (hlen : levels.length = s.ticksToRestore + 1) :
    ∃ l v, runTicks levels (acceptStart s) = tick l v ∧ v.phase = .restore ∧
      v.Traces (fallingEdges (s.windowLevels levels)) := by
  rw [State.ticksToRestore] at hlen
  obtain ⟨l, hlast⟩ := List.length_eq_one_iff.mp
    (show ((levels.drop (s.startLow.toNat + s.release.toNat)).drop s.window.toNat).length = 1 by simp; omega)
  have hsplit : levels = levels.take (s.startLow.toNat + s.release.toNat) ++ s.windowLevels levels ++ [l] := by
    rw [← hlast, State.windowLevels, List.append_assoc, List.take_append_drop, List.take_append_drop]
  obtain ⟨htraces, hrestore⟩ := acceptStart_traces hfloor (before := levels.take (s.startLow.toNat + s.release.toNat))
    (window := s.windowLevels levels) (by simp; omega) (by simp [State.windowLevels]; omega)
  refine ⟨l, _, ?_, hrestore, htraces⟩
  conv_lhs => rw [hsplit, runTicks_append]
  rfl

end

/-- How a transaction ends: IDLE, DONE, a result, the pin driven high (41_sampler.md R151, R153). -/
def State.Ended (s : State) : Prop :=
  s.phase = .idle ∧ s.cnt = 0 ∧ s.oe = true ∧ s.out = true ∧ s.done = true ∧ s.result ≠ .none

theorem tick_restore_ended {s : State} (l : Bool) (h : s.phase = .restore) : (tick l s).Ended := by
  rw [tick_restore l h]
  exact ⟨rfl, rfl, rfl, rfl, rfl, decodeTrace_result_ne_none s⟩

theorem State.Ended.tick {s : State} (h : s.Ended) (l : Bool) : (tick l s).Ended := by
  rw [tick_idle l h.1]
  exact h

theorem State.Ended.runTicks {s : State} (h : s.Ended) (levels : List Bool) : (runTicks levels s).Ended := by
  induction levels generalizing s with
  | nil => exact h
  | cons l levels ih => exact ih (h.tick l)

/-- After more than `L + R + W` ticks a transaction has ended. -/
theorem acceptStart_ended {s : State} (hfloor : 18000 ≤ s.startLow.toNat) {levels : List Bool}
    (hlen : s.ticksToRestore < levels.length) : (runTicks levels (acceptStart s)).Ended := by
  have htake : (levels.take (s.ticksToRestore + 1)).length = s.ticksToRestore + 1 := by simp; omega
  obtain ⟨l, v, hlast, hrestore, _⟩ := acceptStart_last_tick hfloor htake
  rw [← List.take_append_drop (s.ticksToRestore + 1) levels, runTicks_append, hlast]
  exact (tick_restore_ended l hrestore).runTicks _

/-! ## The order of the timestamps (41_sampler.md R156) -/

/-- The stored timestamps rise by at least 2, lie in the window and before `c`, and by 2 before it where the line was
high at the latest sample, so that a fall may be stamped with `c`. -/
structure State.TraceBefore (s : State) (c : Nat) : Prop where
  spaced : ∀ i, i + 1 < s.fill → (s.edgeAt i).toNat + 2 ≤ (s.edgeAt (i + 1)).toNat
  in_window : ∀ i, i < s.fill → (s.edgeAt i).toNat < s.window.toNat
  behind_count : ∀ i, i < s.fill → (s.edgeAt i).toNat < c
  behind_high : s.prev = true → ∀ i, i < s.fill → (s.edgeAt i).toNat + 1 < c

/-- Outside a transaction TraceOrdered asks for nothing. -/
theorem traceOrdered_of_idle {s : State} (h : s.phase = .idle) : s.TraceOrdered := by
  constructor <;> simp [h]

theorem traceOrdered_of_empty {s : State} (hf : s.fill = 0)
    (hc : s.phase = .capture → s.cnt.toNat < s.window.toNat) : s.TraceOrdered :=
  ⟨fun _ => hf, by simp [hf], by simp [hf], hc, by simp [hf], by simp [hf]⟩

theorem traceOrdered_capture_iff {s : State} (h : s.phase = .capture) :
    s.TraceOrdered ↔ s.cnt.toNat < s.window.toNat ∧ s.TraceBefore s.cnt.toNat := by
  constructor
  · intro ho
    exact ⟨ho.count_in_window h, ho.spaced (.inl h), ho.in_window (.inl h), ho.behind_count h, ho.behind_high h⟩
  · rintro ⟨hcount, hspaced, hwindow, hbehind, hhigh⟩
    exact ⟨by simp [h], fun _ => hspaced, fun _ => hwindow, fun _ => hcount, fun _ => hbehind, fun _ => hhigh⟩

theorem State.TraceBefore.traceOrdered_restore {s : State} {c : Nat} (h : s.TraceBefore c)
    (hp : s.phase = .restore) : s.TraceOrdered :=
  ⟨by simp [hp], fun _ => h.spaced, fun _ => h.in_window, by simp [hp], by simp [hp], by simp [hp]⟩

/-- TraceBefore reads these fields only. -/
theorem State.TraceBefore.congr {s t : State} {c : Nat} (h : s.TraceBefore c) (he : t.edge = s.edge := by simp)
    (hp : t.edgeEpoch = s.edgeEpoch := by simp) (hf : t.fill = s.fill := by simp)
    (hw : t.window = s.window := by simp) (hv : t.prev = s.prev := by simp) : t.TraceBefore c := by
  constructor <;> simp only [hf, hw, hv, edgeAt_congr he hp]
  · exact h.spaced
  · exact h.in_window
  · exact h.behind_count
  · exact h.behind_high

theorem State.TraceOrdered.congr {s t : State} (h : s.TraceOrdered) (he : t.edge = s.edge := by simp)
    (hp : t.edgeEpoch = s.edgeEpoch := by simp) (hf : t.fill = s.fill := by simp)
    (hw : t.window = s.window := by simp) (hv : t.prev = s.prev := by simp) (hphase : t.phase = s.phase := by simp)
    (hc : t.cnt = s.cnt := by simp) : t.TraceOrdered := by
  constructor <;> simp only [hf, hw, hv, hphase, hc, edgeAt_congr he hp]
  · exact h.none_before
  · exact h.spaced
  · exact h.in_window
  · exact h.count_in_window
  · exact h.behind_count
  · exact h.behind_high

/-- A fall stamped with CNT follows a high sample, so the stamp before it is at least 2 back. -/
theorem State.TraceBefore.append {s u : State} (h : s.TraceBefore s.cnt.toNat) (hprev : s.prev = true)
    (hcnt : s.cnt.toNat < s.window.toNat) (hfill : u.fill = s.fill + 1) (hnew : u.edgeAt s.fill = s.cnt)
    (hold : ∀ j, j ≠ s.fill → u.edgeAt j = s.edgeAt j) (hwindow : u.window = s.window) (hlow : u.prev = false) :
    u.TraceBefore (s.cnt.toNat + 1) := by
  have hhigh := h.behind_high hprev
  constructor <;> simp only [hfill, hwindow, hlow]
  case spaced =>
    intro i hi
    rw [hold i (by omega)]
    obtain hlast | hinner : i + 1 = s.fill ∨ i + 1 < s.fill := by omega
    · rw [hlast, hnew]
      exact hhigh i (by omega)
    · rw [hold _ (by omega)]
      exact h.spaced i hinner
  case in_window =>
    intro i hi
    by_cases hlast : i = s.fill
    · rwa [hlast, hnew]
    · rw [hold i hlast]
      exact h.in_window i (by omega)
  case behind_count =>
    intro i hi
    by_cases hlast : i = s.fill
    · rw [hlast, hnew]
      exact Nat.lt_succ_self _
    · rw [hold i hlast]
      exact Nat.lt_succ_of_lt (h.behind_count i (by omega))
  case behind_high => exact nofun

/-- With no new timestamp the next sample is one further on. -/
theorem State.TraceBefore.setPrev {s : State} {c : Nat} (h : s.TraceBefore c) (l : Bool) :
    State.TraceBefore { s with prev := l } (c + 1) :=
  ⟨h.spaced, h.in_window, fun i hi => Nat.lt_succ_of_lt (h.behind_count i hi),
    fun _ i hi => Nat.succ_lt_succ (h.behind_count i hi)⟩

/-- A sample at CNT keeps the order, seen from the next sample. -/
theorem State.TraceBefore.sampleLine {s : State} (h : s.TraceBefore s.cnt.toNat)
    (hcnt : s.cnt.toNat < s.window.toNat) (l : Bool) : (sampleLine l s).TraceBefore (s.cnt.toNat + 1) := by
  by_cases hfall : s.prev = true ∧ l = false
  · obtain ⟨hprev, rfl⟩ := hfall
    rw [sampleLine_fall hprev]
    by_cases hroom : s.fill < s.fifoDepth
    · exact h.append hprev hcnt (by simp [hroom]) (edgeAt_recordEdge_fill hroom _)
        (fun j hj => edgeAt_recordEdge_of_ne hj _) rfl rfl
    · rw [recordEdge_full (by omega)]
      exact (h.setPrev false).congr
  · rw [sampleLine_noFall hfall]
    exact h.setPrev l

theorem PhaseEntry.keeps_fill {s t : State} (h : PhaseEntry s t) : t.fill = s.fill := by
  cases h <;> rfl

/-- A phase entered with an empty trace: CAPTURE only with a window to sample. -/
theorem PhaseEntry.traceOrdered {s t : State} (h : PhaseEntry s t) (hf : s.fill = 0) : t.TraceOrdered := by
  refine traceOrdered_of_empty (h.keeps_fill.trans hf) fun hc => ?_
  cases h with
  | release _ => exact nomatch hc
  | capture =>
    rw [enterCapture_phase] at hc
    split_ifs at hc with hempty
    exact Nat.pos_of_ne_zero hempty

theorem phaseStep_keeps_traceOrdered {s : State} (l : Bool) (hs : s.TraceOrdered) :
    (phaseStep l s).TraceOrdered := by
  have he := phaseStep_effect l s
  generalize phaseStep l s = t at he ⊢
  cases he with
  | idle _ => exact hs
  | startCounts hp _ => exact traceOrdered_of_empty (hs.none_before (.inl hp)) (by simp [hp])
  | startEnds hp _ hentry => exact hentry.traceOrdered (hs.none_before (.inl hp))
  | releaseCounts hp _ => exact traceOrdered_of_empty (hs.none_before (.inr hp)) (by simp [hp])
  | releaseEnds hp _ => exact PhaseEntry.capture.traceOrdered (hs.none_before (.inr hp))
  | captureCounts hp hmore =>
    obtain ⟨hcnt, htrace⟩ := (traceOrdered_capture_iff hp).mp hs
    have hnext : nextCount (sampleLine l s) = s.cnt.toNat + 1 := by simp [nextCount]
    have hcount : (countUp (sampleLine l s)).cnt.toNat = s.cnt.toNat + 1 := by
      rw [countUp_cnt_toNat (window_le s) (by rw [hnext]; exact hmore), sampleLine_cnt]
    rw [traceOrdered_capture_iff (by simpa using hp), hcount]
    exact ⟨by simpa [nextCount] using hmore, (htrace.sampleLine hcnt l).congr⟩
  | captureEnds hp _ =>
    obtain ⟨hcnt, htrace⟩ := (traceOrdered_capture_iff hp).mp hs
    exact (htrace.sampleLine hcnt l).congr.traceOrdered_restore rfl
  | restore _ => exact traceOrdered_of_idle rfl

theorem exec_keeps_traceOrdered {i : Instr} {s t : State} (hs : s.TraceOrdered) (h : exec i s = .next t) :
    t.TraceOrdered := by
  cases exec_effect h with
  | start _ _ => exact traceOrdered_of_empty rfl nofun
  | read _ | pop _ _ | popEmpty _ _ | nothing | writeRejected _ _ | commandRejected _ | clearFlags _ _ =>
    exact hs.congr
  | _ => exact traceOrdered_of_idle (by simpa using ‹s.phase = .idle›)

theorem step_keeps_traceOrdered {s t : State} (hs : s.TraceOrdered) (h : step s = .next t) : t.TraceOrdered :=
  step_keeps h hs (fun _ _ hs => hs.congr) (fun _ _ _ hu hx => exec_keeps_traceOrdered hu hx)
    (fun _ l hu => phaseStep_keeps_traceOrdered l hu.congr) (fun _ _ => traceOrdered_of_idle rfl)

end Sys2Proof.Machine

/-! ## The statements -/

/-- Settles O17: the entry is answered zero-extended. -/
theorem popReturnsTheNextEntry : Obligations.PopReturnsTheNextEntry := by
  intro s
  refine ⟨fun hunread => ⟨_, congrArg Host.Outcome.next (if_pos hunread), zext_toNat _⟩, fun hread => ?_⟩
  exact congrArg Host.Outcome.next (if_neg (by omega))

/-- Settles O27: START is ClearData and the low pin, behind the BUSY guard. -/
theorem startBeginsATransaction : Obligations.StartBeginsATransaction := by
  intro s
  exact ⟨exec_command_idle rfl, onlyCmdErr_of_busy rfl⟩

/-- Settles O30: in IDLE the phase step does nothing. -/
theorem idleTickChangesOnlyTimerAndLine : Obligations.IdleTickChangesOnlyTimerAndLine :=
  fun _ level hidle => tick_idle level hidle

/-- Settles O29: no phase step touches TIMER, LINE or what the frame of a tick names. -/
theorem everyTickCountsAndSamples : Obligations.EveryTickCountsAndSamples := by
  intro s level
  obtain ⟨hmodel, hcsum, hie, hstart, hrelease, hwindow, hthresh, hcmd, hwr, hrd, hrptr, hdepth, _, hrdata, _⟩ :=
    tick_frame level s
  exact ⟨_, rfl, tick_timer_toNat level s, tick_line level s, hmodel, hcsum, hie, hstart, hrelease, hwindow,
    hthresh, hcmd, hwr, hrd, hrptr, fifoDepth_congr hdepth, hrdata⟩

/-- Settles O28: the push is RecordEdge of the low half behind the BUSY guard. -/
theorem pushAppendsOneTimestamp : Obligations.PushAppendsOneTimestamp := by
  intro s w
  refine ⟨fun hidle hroom => ⟨_, exec_write_idle rfl hidle, ?_, ?_, ?_, ?_⟩,
    fun hidle hfull => ⟨_, exec_write_idle rfl hidle, ?_, ?_⟩, onlyWrErr_of_busy rfl⟩
  · rw [edgeAt_recordEdge_fill hroom, lowHalf_toNat]
  · exact fun j hj => edgeAt_recordEdge_of_ne hj _
  · exact recordEdge_edgeCount_toNat _ s
  · exact recordEdge_room hroom _
  · exact recordEdge_edgeCount_toNat _ s
  · exact recordEdge_full hfull _

/-- Settles O31, by the two comparisons of R145 and R146. -/
theorem startTick : Obligations.StartTick := by
  intro s level hstart
  rw [tick_start level hstart, tickStart]
  refine ⟨fun hcounts => ?_, fun hends hrelease => ?_, fun hends hrelease => ?_⟩
  · rw [if_neg (by simpa [nextCount] using hcounts), countUp_eq]
    rfl
  · rw [if_pos (by simpa [nextCount] using hends), enterRelease,
      if_neg (by simpa [toNat_eq_zero_iff] using hrelease)]
    rfl
  · rw [if_pos (by simpa [nextCount] using hends), enterRelease,
      if_pos (by simpa [toNat_eq_zero_iff] using hrelease), enterCapture_eq]
    rfl

/-- Settles O32, by the comparison of R147. -/
theorem releaseTick : Obligations.ReleaseTick := by
  intro s level hrelease
  rw [tick_release level hrelease, tickRelease]
  refine ⟨fun hcounts => ?_, fun hends => ?_⟩
  · rw [if_neg (by simpa [nextCount] using hcounts), countUp_eq]
    rfl
  · rw [if_pos (by simpa [nextCount] using hends), enterCapture_eq]
    rfl

/-- Settles O34: Decode() reads none of the fields in which the two differ. -/
theorem restoreTickDecodes : Obligations.RestoreTickDecodes := by
  intro s level hrestore
  refine ⟨_, exec_decode_idle s, rfl, ?_⟩
  rw [tick_restore level hrestore]
  simp only [clearDone, setDone, restorePin, clockTick, decodeTrace_timer]

/-- Settles O33, by whether the sample is a fall, whether the FIFO has room, and the comparison of R149. -/
theorem captureTick : Obligations.CaptureTick := by
  intro s level hcapture
  have hcnt : (clockTick level (sampleLine level s)).cnt = s.cnt := sampleLine_cnt _ _
  have hwindow : (clockTick level (sampleLine level s)).window = s.window := sampleLine_window _ _
  refine ⟨_, rfl, ?_, fun hcounts => ?_, fun hends => ?_, fun hno => ?_, ?_, ?_, ?_⟩
  all_goals rw [tick_capture level hcapture]
  · rw [advanceCapture_frame_eq, sampleLine_frame_eq]
    rfl
  · rw [advanceCapture_counts (by rwa [hcnt, hwindow])]
    exact ⟨by simp [hcapture], by simp⟩
  · rw [advanceCapture_ends (by rwa [hcnt, hwindow])]
    exact ⟨rfl, rfl⟩
  · rw [advanceCapture_frame_eq, sampleLine_noFall hno]
    exact ⟨rfl, rfl, rfl, rfl⟩
  · rintro ⟨hprev, rfl⟩
    rw [advanceCapture_frame_eq, sampleLine_fall hprev]
    exact recordEdge_edgeCount_toNat s.cnt s
  · rintro ⟨hprev, rfl⟩ hroom
    rw [advanceCapture_frame_eq, sampleLine_fall hprev]
    refine ⟨edgeAt_recordEdge_fill hroom _, fun j hj => edgeAt_recordEdge_of_ne hj _, ?_, ?_⟩
    · simp [hroom]
    · simp [hroom]
  · rintro ⟨hprev, rfl⟩ hfull
    rw [advanceCapture_frame_eq, sampleLine_fall hprev, recordEdge_full hfull]
    exact ⟨rfl, rfl, rfl⟩

/-- Settles O37: the state `enter_capture` leaves has recorded nothing. -/
theorem captureRecordsTheFallingEdges : Obligations.CaptureRecordsTheFallingEdges := by
  intro s levels hcapture hcnt hprev hfill hcount hovf hlen hwindow
  have hcnt0 : s.cnt.toNat = 0 := by simp [hcnt]
  have hopen : s.Capturing [] := ⟨hcapture, by omega, traces_nil hfill hcount hovf, by simp⟩
  obtain ⟨htraces, hphase⟩ := hopen.runTicks levels (by omega)
  rw [hprev, hcnt0, List.nil_append] at htraces
  rw [hcnt0, Nat.zero_add] at hphase
  have hdepth := runTicks_fifoDepth levels s
  exact ⟨_, rfl, htraces.count, hdepth ▸ htraces.fill_eq, htraces.stored, hdepth ▸ htraces.ovf_iff, hphase⟩

/-- Settles O35: up to `L + R + W` ticks a transaction is on its course, and the next tick is RESTORE's. -/
theorem transactionTimeline : Obligations.TransactionTimeline := by
  intro s u levels hinv hidle hstart
  obtain rfl := exec_start_idle hidle hstart
  have hfloor := hinv.startLow_floor
  obtain ⟨hmodel, hcsum, hie, hstartLow, hrelease, hwindow, hthresh, _⟩ := runTicks_frame levels (acceptStart s)
  refine ⟨_, rfl, runTicks_timer_toNat levels _, ?_, acceptStart_undecided hfloor, acceptStart_ended hfloor,
    hstartLow, hrelease, hwindow, hthresh, hmodel, hcsum, hie⟩
  by_cases hlen : levels.length ≤ s.ticksToRestore
  · have hcourse := runTicks_onCourse levels (acceptStart_onCourse hfloor) (by omega)
    rw [Nat.zero_add] at hcourse
    exact hcourse.onTimeline
  · exact onTimeline_of_ended (by omega) _

/-- Settles O51: the order is kept by every step. -/
theorem stepKeepsTheTraceOrdered : Obligations.StepKeepsTheTraceOrdered :=
  fun _ _ hs h => step_keeps_traceOrdered hs h

/-- Settles O39: the last tick decodes the trace of the window. -/
theorem transactionReportsItsEdgeCount : Obligations.TransactionReportsItsEdgeCount := by
  intro s u levels hinv hidle hstart hlen
  obtain rfl := exec_start_idle hidle hstart
  obtain ⟨l, v, hlast, hrestore, htraces⟩ := acceptStart_last_tick hinv.startLow_floor hlen
  have hcount := htraces.count
  rw [hlast, tick_restore l hrestore]
  refine ⟨_, _, rfl, rfl, by simpa using hcount, ?_, ?_, ?_⟩ <;> rw [← hcount]
  · intro h0
    rw [decodeTrace_noResponse h0]
    exact ⟨rfl, rfl⟩
  · intro h0 h41 h42
    rw [decodeTrace_wrongCount h0 h41 h42]
    exact ⟨rfl, toNat_sub_one h0⟩
  · intro hframe
    rw [decodeTrace_frame hframe]
    exact ⟨checkInterpret_result_cases _, rfl⟩

/-- Settles O38: a constant line falls at the first sample of the window or not at all. -/
theorem silentAndStuckLines : Obligations.SilentAndStuckLines := by
  intro s u levels hinv hidle hstart hlen
  obtain rfl := exec_start_idle hidle hstart
  obtain ⟨l, v, hlast, hrestore, htraces⟩ := acceptStart_last_tick hinv.startLow_floor hlen
  have hdepth := fifoDepth_bounds v
  refine ⟨_, rfl, fun hsilent => ?_, fun hopen hstuck => ?_⟩ <;> rw [hlast, tick_restore l hrestore]
  · rw [hsilent, fallingEdges, fallingFrom_replicate] at htraces
    have hcount : v.edgeCount = 0 := (toNat_eq_zero_iff _).mp htraces.count
    rw [decodeTrace_noResponse (by simp [hcount])]
    exact ⟨rfl, hcount, by simpa using htraces.fill_eq, rfl⟩
  · obtain ⟨w, hw⟩ := Nat.exists_eq_add_of_le' hopen
    have hfalls : fallingEdges (s.windowLevels levels) = [0] := by
      rw [hstuck, hw, List.replicate_succ, fallingEdges, fallingFrom_cons, fallingFrom_replicate]
      rfl
    rw [hfalls] at htraces
    have hcount : v.edgeCount = 1 := BitVec.eq_of_toNat_eq htraces.count
    have hfill : v.fill = 1 := by
      rw [htraces.fill_eq, List.length_singleton]
      omega
    have hstamp : v.edgeAt 0 = 0 := by
      have hstored := htraces.stored 0 (by omega)
      exact (toNat_eq_zero_iff _).mp (Option.some.inj hstored).symm
    rw [decodeTrace_wrongCount (by simp [hcount]) (by simp [hcount]) (by simp [hcount])]
    exact ⟨rfl, hcount, hfill, hstamp, by simp [hcount]⟩

end

section
/-! SUPPORT. The proofs of the statements of 42_frame_decoder.md: DECODE while IDLE as Decode() and DONE (R178), the
three ways it ends (R171 to R177), where each bit of the frame stands (R176), and the fields a second DECODE finds as
the first one did (R179). -/

open Sys2Proof Sys2Proof.Machine

namespace Sys2Proof.Machine

/-! ## DECODE while IDLE (42_frame_decoder.md R178) -/

/-- Decode() does not read DONE, so that DECODE clears it first does not show. -/
theorem decodeTrace_clearDone (s : State) : decodeTrace (clearDone s) = clearDone (decodeTrace s) :=
  decodeTrace_comm clearDone rfl (fun _ _ => rfl) rfl

theorem decodeTrace_setDone (s : State) : decodeTrace (setDone s) = setDone (decodeTrace s) :=
  decodeTrace_comm setDone rfl (fun _ _ => rfl) rfl

theorem exec_decode_of_idle {s : State} (hidle : s.phase = .idle) :
    exec .decode s = .next (setDone (decodeTrace s)) := by
  rw [exec_command_idle (i := .decode) rfl hidle, decodeTrace_clearDone]
  rfl

/-! ## The bits of the frame (42_frame_decoder.md R174 to R176) -/

/-- Bit `8 j + k` of the frame stands in its byte at position `7 − k`: the most significant bit first. -/
theorem packByte_getLsbD (s : State) (j : Nat) {k : Nat} (hk : k < 8) :
    (packByte s j).getLsbD (7 - k) = frameBit s (8 * j + k) := by
  unfold packByte
  change BitVec.getLsbD (w := 1 + 1 + 1 + 1 + 1 + 1 + 1 + 1) _ _ = _
  simp only [BitVec.getLsbD_append]
  interval_cases k <;> simp

theorem packFrame_byte (s : State) {j : Nat} (hj : j < 5) : (packFrame s).byte j = packByte s j := by
  interval_cases j <;> rfl

theorem packFrame_getLsbD (s : State) {i : Nat} (hi : i < 40) :
    ((packFrame s).byte (i / 8)).getLsbD (7 - i % 8) = frameBit s i := by
  rw [packFrame_byte s (by omega), packByte_getLsbD s _ (Nat.mod_lt i (by decide)), Nat.div_add_mod]

theorem frameBit_iff (s : State) (i : Nat) :
    frameBit s i = true ↔ (s.thresh.toNat : Int) ≤ interval s i :=
  decide_eq_true_iff

/-- A byte of the frame reads its eight bits only. -/
theorem packByte_congr {s s' : State} {j : Nat}
    (h : ∀ k < 8, frameBit s (8 * j + k) = frameBit s' (8 * j + k)) : packByte s j = packByte s' j := by
  refine BitVec.eq_of_getLsbD_eq fun i hi => ?_
  obtain ⟨k, hk, rfl⟩ : ∃ k, k < 8 ∧ i = 7 - k := ⟨7 - i, by omega, by omega⟩
  rw [packByte_getLsbD s j hk, packByte_getLsbD s' j hk, h k hk]

/-- The frame is its forty bits. -/
theorem packFrame_congr {s s' : State} (h : ∀ i < 40, frameBit s i = frameBit s' i) :
    packFrame s = packFrame s' := by
  have hbyte : ∀ j < 5, packByte s j = packByte s' j := fun j hj =>
    packByte_congr fun k hk => h _ (by omega)
  simp only [packFrame, hbyte 0, hbyte 1, hbyte 2, hbyte 3, hbyte 4, Nat.reduceLT]

/-- The interval from the offset `N − 41` skips the leading edge of a trace of 42 (42_frame_decoder.md R173). -/
theorem interval_skips_leading_edge {s s' : State} (hn : s.edgeCount = 42) (hn' : s'.edgeCount = 41)
    (hedge : ∀ i, i ≤ 40 → s.edgeAt (i + 1) = s'.edgeAt i) {i : Nat} (hi : i < 40) :
    interval s i = interval s' i := by
  have hoff : frameOffset s = 1 := by simp [frameOffset, hn]
  have hoff' : frameOffset s' = 0 := by simp [frameOffset, hn']
  rw [interval, interval, hoff, hoff', Nat.zero_add, ← hedge i (by omega), ← hedge (i + 1) (by omega),
    Nat.add_comm 1 i]

/-! ## A second DECODE (42_frame_decoder.md R179) -/

/-- Decode() writes nothing that it reads. -/
theorem decodeTrace_idem (s : State) : decodeTrace (decodeTrace s) = decodeTrace s := by
  have he := decodeTrace_effect s
  generalize decodeTrace s = t at he ⊢
  cases he with
  | noResponse h0 => exact decodeTrace_noResponse h0
  | frame hcount => exact decodeTrace_frame hcount
  | wrongCount h0 h41 h42 => exact decodeTrace_wrongCount h0 h41 h42

theorem setDone_of_done {s : State} (h : s.done = true) : setDone s = s := by
  rw [setDone, ← h]

/-- DECODE finds nothing to change in a state that has DONE and is as Decode() leaves it. -/
theorem exec_decode_fixed {s : State} (hidle : s.phase = .idle) (hdone : s.done = true)
    (hfixed : decodeTrace s = s) : exec .decode s = .next s := by
  rw [exec_decode_of_idle hidle, hfixed, setDone_of_done hdone]

/-- A pop answers the next entry, or 0 with RDERR. -/
theorem exec_rdTsData_cases {s p : State} (h : exec .rdTsData s = .next p) :
    p = popEdge s ∨ p = respond 0 (flagRdErr s) := by
  injection h with h
  by_cases hunread : s.rptr < s.fill
  · exact .inl (h.symm.trans (if_pos hunread))
  · exact .inr (h.symm.trans (if_neg hunread))

theorem decodeTrace_popEdge (s : State) : decodeTrace (popEdge s) = popEdge (decodeTrace s) :=
  decodeTrace_comm popEdge rfl (fun _ _ => rfl) rfl

theorem decodeTrace_emptyPop (s : State) :
    decodeTrace (respond 0 (flagRdErr s)) = respond 0 (flagRdErr (decodeTrace s)) :=
  decodeTrace_comm (fun u => respond 0 (flagRdErr u)) rfl (fun _ _ => rfl) rfl

end Sys2Proof.Machine

/-! ## The statements -/

/-- Settles O42: the packed frame, bit by bit, and what CheckInterpret() makes of it. -/
theorem decodePacksTheThresholdedIntervals : Obligations.DecodePacksTheThresholdedIntervals := by
  intro s hidle hcount
  refine ⟨_, exec_decode_of_idle hidle, ?_, fun i hi => ?_, ?_⟩ <;> rw [decodeTrace_frame hcount]
  · rfl
  · exact (Bool.eq_iff_iff.mp (packFrame_getLsbD s hi)).trans (frameBit_iff s i)
  · exact exec_command_idle rfl hidle

/-- Settles O43: the forty intervals are the same, so the frames are. -/
theorem fortyTwoEdgesDecodeAsFortyOne : Obligations.FortyTwoEdgesDecodeAsFortyOne := by
  intro s s' hidle hidle' hn hn' hthresh hmodel hcsum hedge
  have hframe : packFrame s = packFrame s' := packFrame_congr fun i hi => by
    rw [frameBit, frameBit, hthresh, interval_skips_leading_edge hn hn' hedge hi]
  refine ⟨_, _, exec_decode_of_idle hidle, exec_decode_of_idle hidle', ?_⟩
  rw [decodeTrace_frame (s := s) (by simp [hn]), decodeTrace_frame (s := s') (by simp [hn'])]
  simp [hframe, hmodel, hcsum]

/-- Settles O44: the state DECODE leaves is fixed, and a pop commutes with Decode(). -/
theorem decodeIsIdempotent : Obligations.DecodeIsIdempotent := by
  intro s hidle
  have hphase : (setDone (decodeTrace s)).phase = .idle := by simpa using hidle
  have hfixed : decodeTrace (setDone (decodeTrace s)) = setDone (decodeTrace s) := by
    rw [decodeTrace_setDone, decodeTrace_idem]
  refine ⟨_, exec_decode_of_idle hidle, exec_decode_fixed hphase rfl hfixed, fun p hpop => ?_⟩
  obtain rfl | rfl := exec_rdTsData_cases hpop
  · refine ⟨exec_decode_fixed hphase rfl ?_, rfl, rfl, rfl, rfl, rfl⟩
    rw [decodeTrace_popEdge, hfixed]
  · refine ⟨exec_decode_fixed hphase rfl ?_, rfl, rfl, rfl, rfl, rfl⟩
    rw [decodeTrace_emptyPop, hfixed]

/-- Settles O40: the first way Decode() ends. -/
theorem decodeOfAnEmptyTrace : Obligations.DecodeOfAnEmptyTrace := by
  intro s hidle hempty
  rw [exec_decode_of_idle hidle, decodeTrace_noResponse (by simp [hempty])]
  rfl

/-- Settles O41: the last way Decode() ends, and `N − 1` does not wrap. -/
theorem decodeOfAWrongEdgeCount : Obligations.DecodeOfAWrongEdgeCount := by
  intro s hidle hsome h41 h42
  have h0 : s.edgeCount.toNat ≠ 0 := by omega
  refine ⟨s.edgeCount - 1, toNat_sub_one h0, ?_⟩
  rw [exec_decode_of_idle hidle, decodeTrace_wrongCount h0 h41 h42]
  rfl

end

section
/-! SUPPORT. The proofs of the statements of 43_checksum.md: the two tests as equations on sum8 and on the untruncated
sum (R190 to R192), INTERPRET while IDLE (44_interpreter.md R200, R207), and how many checksum bytes pass the AND test,
counted bit by bit (R194). -/

open Sys2Proof Sys2Proof.Machine

namespace Sys2Proof.Machine

/-! ## The two tests (43_checksum.md R190 to R192) -/

@[simp] theorem csumOk_andTest (f : RawFrame) : csumOk .andTest f = true ↔ f.sum8 &&& f.b4 = f.b4 := beq_iff_eq

@[simp] theorem csumOk_modTest (f : RawFrame) : csumOk .modTest f = true ↔ f.sum8 = f.b4 := beq_iff_eq

/-- Truncating the sum does not show in the AND test (43_checksum.md R190). -/
theorem fullSum_and_b4 (f : RawFrame) : f.fullSum &&& f.b4.toNat = (f.sum8 &&& f.b4).toNat := by
  have hsmall : f.fullSum &&& f.b4.toNat < 2 ^ 8 := Nat.and_lt_two_pow _ f.b4.isLt
  calc f.fullSum &&& f.b4.toNat
      = (f.fullSum &&& f.b4.toNat) % 2 ^ 8 := (Nat.mod_eq_of_lt hsmall).symm
    _ = f.fullSum % 2 ^ 8 &&& f.b4.toNat := by rw [Nat.and_mod_two_pow, Nat.mod_eq_of_lt f.b4.isLt]
    _ = (f.sum8 &&& f.b4).toNat := by rw [BitVec.toNat_and, sum8_toNat]; rfl

theorem csumOk_andTest_fullSum (f : RawFrame) :
    csumOk .andTest f = true ↔ f.fullSum &&& f.b4.toNat = f.b4.toNat := by
  rw [csumOk_andTest, fullSum_and_b4, BitVec.toNat_inj]

theorem csumOk_modTest_fullSum (f : RawFrame) : csumOk .modTest f = true ↔ f.fullSum % 256 = f.b4.toNat := by
  rw [csumOk_modTest, ← sum8_toNat, BitVec.toNat_inj]

/-- Either test reads sum8 and the checksum byte only. -/
theorem csumOk_congr {f g : RawFrame} (hsum : g.sum8 = f.sum8) (hbyte : g.b4 = f.b4) (m : CsumMode) :
    csumOk m g = csumOk m f := by
  cases m <;> simp only [csumOk, hsum, hbyte]

theorem sum8_eq_sum (f : RawFrame) : f.sum8 = [f.b0, f.b1, f.b2, f.b3].sum := by
  simp [RawFrame.sum8, add_assoc]

/-! ## INTERPRET (44_interpreter.md R200, R207) -/

theorem exec_interpret_of_idle {s : State} (hidle : s.phase = .idle) :
    exec .interpret s = .next (setDone (checkInterpret s)) :=
  exec_command_idle rfl hidle

theorem checkInterpret_mismatch {s : State} (h : ¬ csumOk s.csumMode s.raw = true) :
    checkInterpret s = { s with result := .checksumMismatch, hum := 0, temp := 0 } := by
  simp only [checkInterpret, if_neg h]

/-! ## Counting the checksum bytes that pass (43_checksum.md R194) -/

/-- The AND with `x` keeps `k` where `x` has every bit of `k`. -/
theorem and_eq_right_iff_testBit (x k : Nat) :
    x &&& k = k ↔ ∀ i, k.testBit i = true → x.testBit i = true := by
  simp only [Nat.eq_iff_testBit_eq, Nat.testBit_and, Bool.and_eq_right_iff_imp]

/-- A new highest bit asks `x` for one bit more. -/
theorem and_two_pow_add_eq_iff (x : Nat) {n k : Nat} (hk : k < 2 ^ n) :
    x &&& (2 ^ n + k) = 2 ^ n + k ↔ x.testBit n = true ∧ x &&& k = k := by
  have hor : 2 ^ n + k = 2 ^ n ||| k := by simpa using Nat.two_pow_add_eq_or_of_lt hk 1
  simp only [hor, and_eq_right_iff_testBit, Nat.testBit_or, Nat.testBit_two_pow, Bool.or_eq_true, or_imp,
    forall_and, decide_eq_true_eq, forall_eq']

/-- Each one bit of `x` doubles the number of `n`-bit numbers whose bits are all among those of `x`. -/
theorem countP_and_eq_two_pow (x n : Nat) :
    (List.range (2 ^ n)).countP (fun k => x &&& k == k) = 2 ^ (List.range n).countP x.testBit := by
  induction n with
  | zero => simp
  | succ n ih =>
    have hupper : (List.range (2 ^ n)).countP (fun k => x &&& (2 ^ n + k) == 2 ^ n + k) =
        (List.range (2 ^ n)).countP (fun k => x.testBit n && x &&& k == k) :=
      List.countP_congr fun k hk => by simp [and_two_pow_add_eq_iff x (List.mem_range.mp hk)]
    rw [Nat.pow_succ, Nat.mul_two, List.range_add, List.countP_append, List.countP_map, List.range_succ,
      List.countP_append, Function.comp_def, hupper, ih, pow_add]
    cases hbit : x.testBit n
    · simp [hbit]
    · simp [hbit, ih, Nat.mul_two]

theorem countP_csumOk_andTest (f : RawFrame) :
    (List.range 256).countP (fun k => csumOk .andTest { f with b4 := BitVec.ofNat 8 k }) =
      2 ^ (List.range 8).countP f.sum8.getLsbD := by
  refine Eq.trans (List.countP_congr fun k hk => ?_) (countP_and_eq_two_pow f.sum8.toNat 8)
  have hbyte : k % 2 ^ 8 = k := Nat.mod_eq_of_lt (List.mem_range.mp hk)
  rw [csumOk_andTest, ← BitVec.toNat_inj, BitVec.toNat_and, BitVec.toNat_ofNat, hbyte, beq_iff_eq]
  rfl

/-- The one checksum byte that passes the MOD test is sum8. -/
theorem countP_csumOk_modTest (f : RawFrame) :
    (List.range 256).countP (fun k => csumOk .modTest { f with b4 := BitVec.ofNat 8 k }) = 1 := by
  have hmem : f.sum8.toNat ∈ List.range 256 := List.mem_range.mpr f.sum8.isLt
  refine Eq.trans (List.countP_congr fun k hk => ?_) (List.count_eq_one_of_mem List.nodup_range hmem)
  have hbyte : k % 2 ^ 8 = k := Nat.mod_eq_of_lt (List.mem_range.mp hk)
  rw [csumOk_modTest, ← BitVec.toNat_inj, BitVec.toNat_ofNat, hbyte, beq_iff_eq]
  exact eq_comm

end Sys2Proof.Machine

/-! ## The statements -/

/-- Settles O49: the tests as equations on sum8, and the passing checksum bytes counted bit by bit. -/
theorem checksumTestProperties : Obligations.ChecksumTestProperties := by
  intro f
  refine ⟨fun hmod => ?_, fun hzero => ?_, fun hones => ?_, ⟨countP_csumOk_andTest f, countP_csumOk_modTest f⟩,
    ?_, fun _ => csumOk_congr, fun g hperm => csumOk_congr ?_⟩
  · rw [csumOk_modTest] at hmod
    rw [csumOk_andTest, hmod, BitVec.and_self]
  · simp [hzero]
  · rw [csumOk_andTest, hones]
    exact BitVec.allOnes_and
  · rintro rfl m
    cases m <;> rfl
  · rw [sum8_eq_sum, sum8_eq_sum, hperm.sum_eq]

/-- Settles O45: the failing branch of CheckInterpret(), with the test's failure read on the untruncated sum. -/
theorem interpretOfAFailedChecksum : Obligations.InterpretOfAFailedChecksum := by
  intro s hidle hfail
  have hbad : ¬ csumOk s.csumMode s.raw = true := by
    obtain ⟨hmode, hfail⟩ | ⟨hmode, hfail⟩ := hfail
    · rwa [hmode, csumOk_andTest_fullSum]
    · rwa [hmode, csumOk_modTest_fullSum]
  rw [exec_interpret_of_idle hidle, checkInterpret_mismatch hbad]
  rfl

end

section
/-! SUPPORT. The proofs of the statements of 44_interpreter.md: the interpreted values as plain arithmetic on the bytes
(R201 to R204), their ranges (R208), which fit the 32-bit registers and so are read back exactly (R200), and INTERPRET
of a frame that passes (R206, R207). -/

open Sys2Proof Sys2Proof.Machine

namespace Sys2Proof.Machine

/-! ## The bytes as numbers (R201 to R204) -/

theorem and_0x7F_eq_mod (n : Nat) : n &&& 0x7F = n % 128 := Nat.and_two_pow_sub_one_eq_mod n 7

/-- A byte shifted above another byte: the OR carries nothing. -/
theorem shiftLeft_or_byte (n : Nat) (b : Byte) : n <<< 8 ||| b.toNat = n * 256 + b.toNat := by
  rw [← Nat.shiftLeft_add_eq_or_of_lt b.isLt, Nat.shiftLeft_eq]

theorem byte_getLsbD_seven (b : Byte) : b.getLsbD 7 = true ↔ 128 ≤ b.toNat := by
  rw [← BitVec.msb_eq_getLsbD_last, BitVec.msb_eq_decide, decide_eq_true_eq]

theorem humidity_dht11 (f : RawFrame) : humidity .dht11 f = f.b0.toNat * 100 + f.b1.toNat := rfl

theorem humidity_dht22 (f : RawFrame) : humidity .dht22 f = (f.b0.toNat * 256 + f.b1.toNat) * 10 := by
  rw [humidity, shiftLeft_or_byte]

theorem temperature_dht11 (f : RawFrame) :
    temperature .dht11 f = (f.b2.toNat % 128 * 100 + f.b3.toNat : Nat) := by
  rw [temperature, dht11Temperature, and_0x7F_eq_mod]

theorem dht22Magnitude_eq (f : RawFrame) : dht22Magnitude f = (f.b2.toNat % 128 * 256 + f.b3.toNat) * 10 := by
  rw [dht22Magnitude, and_0x7F_eq_mod, shiftLeft_or_byte]

theorem temperature_dht22 (f : RawFrame) :
    temperature .dht22 f = (if 128 ≤ f.b2.toNat then -1 else 1) * (dht22Magnitude f : Int) := by
  simp only [temperature, byte_getLsbD_seven]
  split_ifs
  · exact Int.neg_eq_neg_one_mul _
  · exact (Int.one_mul _).symm

/-! ## The ranges (R208) -/

theorem humidity_dht11_le (f : RawFrame) : humidity .dht11 f ≤ 25755 := by
  have h0 := f.b0.isLt
  have h1 := f.b1.isLt
  rw [humidity_dht11]
  omega

theorem humidity_dht22_le (f : RawFrame) : humidity .dht22 f ≤ 655350 := by
  have h0 := f.b0.isLt
  have h1 := f.b1.isLt
  rw [humidity_dht22]
  omega

theorem temperature_dht11_range (f : RawFrame) :
    0 ≤ temperature .dht11 f ∧ temperature .dht11 f ≤ 12955 := by
  have h3 := f.b3.isLt
  rw [temperature_dht11]
  omega

theorem dht22Magnitude_le (f : RawFrame) : dht22Magnitude f ≤ 327670 := by
  have h3 := f.b3.isLt
  rw [dht22Magnitude_eq]
  omega

theorem temperature_dht22_range (f : RawFrame) :
    -327670 ≤ temperature .dht22 f ∧ temperature .dht22 f ≤ 327670 := by
  have hmag := dht22Magnitude_le f
  rw [temperature_dht22]
  split_ifs <;> omega

/-! ## The registers hold the values exactly (00_scope.md R12) -/

theorem toInt_sext {v : Int} (hlow : -2 ^ 31 ≤ v) (hhigh : v < 2 ^ 31) : (sext v).toInt = v :=
  BitVec.toInt_ofInt_eq_self (by decide) hlow hhigh

@[simp] theorem toInt_sext_humidity (m : SensorModel) (f : RawFrame) :
    (sext (humidity m f)).toInt = humidity m f := by
  have hrange : humidity m f ≤ 655350 := by
    cases m
    case dht11 => exact (humidity_dht11_le f).trans (by decide)
    case dht22 => exact humidity_dht22_le f
  exact toInt_sext (by omega) (by omega)

@[simp] theorem toInt_sext_temperature (m : SensorModel) (f : RawFrame) :
    (sext (temperature m f)).toInt = temperature m f := by
  cases m
  case dht11 =>
    have hrange := temperature_dht11_range f
    exact toInt_sext (by omega) (by omega)
  case dht22 =>
    have hrange := temperature_dht22_range f
    exact toInt_sext (by omega) (by omega)

/-! ## INTERPRET of a frame that passes (R206, R207) -/

/-- The two tests as the source writes them, on the untruncated sum (43_checksum.md R190 to R192). -/
theorem csumOk_of_fullSum {m : CsumMode} {f : RawFrame}
    (h : (m = .andTest ∧ f.fullSum &&& f.b4.toNat = f.b4.toNat) ∨
      (m = .modTest ∧ f.fullSum % 256 = f.b4.toNat)) : csumOk m f = true := by
  obtain ⟨rfl, hand⟩ | ⟨rfl, hmod⟩ := h
  · exact (csumOk_andTest_fullSum f).mpr hand
  · exact (csumOk_modTest_fullSum f).mpr hmod

theorem checkInterpret_success {s : State} (h : csumOk s.csumMode s.raw = true) :
    checkInterpret s = { s with
      result := .success, hum := sext (humidity s.model s.raw), temp := sext (temperature s.model s.raw) } := by
  simp only [checkInterpret, if_pos h]

theorem exec_interpret_success {s : State} (hidle : s.phase = .idle) (hok : csumOk s.csumMode s.raw = true) :
    exec .interpret s = .next { s with
      result := .success, hum := sext (humidity s.model s.raw), temp := sext (temperature s.model s.raw),
      done := true } := by
  rw [exec_interpret_of_idle hidle, checkInterpret_success hok]
  rfl

/-- SUCCESS comes from a frame that passes, and then the two registers, read as signed numbers, are the interpreted
values. -/
theorem interpret_success_values {s t : State} (hidle : s.phase = .idle) (hexec : exec .interpret s = .next t)
    (hsuccess : t.result = .success) :
    t.hum.toInt = humidity s.model s.raw ∧ t.temp.toInt = temperature s.model s.raw := by
  rw [exec_interpret_of_idle hidle] at hexec
  cases hexec
  have hok : csumOk s.csumMode s.raw = true := by
    by_contra hbad
    rw [checkInterpret_mismatch hbad] at hsuccess
    cases hsuccess
  simp [hok]

end Sys2Proof.Machine

/-! ## The statements -/

/-- Settles O46: the DHT11 values fit the registers, and the AND with 0x7F drops bit 7. -/
theorem interpretAsDht11 : Obligations.InterpretAsDht11 := by
  intro s hidle hmodel hpass
  refine ⟨_, _, exec_interpret_success hidle (csumOk_of_fullSum hpass), ?_, ?_⟩
  · rw [toInt_sext_humidity, hmodel, humidity_dht11]
    push_cast
    rfl
  · rw [toInt_sext_temperature, hmodel, temperature_dht11]
    push_cast
    rfl

/-- Settles O47: the DHT22 values fit the registers, and bit 7 of byte 2 is its being 128 or more. -/
theorem interpretAsDht22 : Obligations.InterpretAsDht22 := by
  intro s hidle hmodel hpass
  refine ⟨_, _, exec_interpret_success hidle (csumOk_of_fullSum hpass), ?_, ?_⟩
  · rw [toInt_sext_humidity, hmodel, humidity_dht22]
    push_cast
    rfl
  · rw [toInt_sext_temperature, hmodel, temperature_dht22, dht22Magnitude_eq]
    push_cast
    rfl

/-- Settles O48: SUCCESS leaves the interpreted values, and these have the ranges of the bytes they come from. -/
theorem interpretedValuesStayInRange : Obligations.InterpretedValuesStayInRange := by
  intro s t hidle hexec hsuccess
  obtain ⟨hhum, htemp⟩ := interpret_success_values hidle hexec hsuccess
  rw [hhum, htemp]
  refine ⟨fun hmodel => ?_, fun hmodel => ?_⟩
  · rw [hmodel]
    exact ⟨Int.natCast_nonneg _, by exact_mod_cast humidity_dht11_le s.raw, temperature_dht11_range s.raw⟩
  · rw [hmodel]
    exact ⟨Int.natCast_nonneg _, by exact_mod_cast humidity_dht22_le s.raw, temperature_dht22_range s.raw⟩

end

section
/-! SUPPORT. The proofs of the statements of 60_exceptions.md: the causes of each flag (R222, R227) and what the level
of IRQ follows (R223, R224). -/

open Sys2Proof Sys2Proof.Machine

namespace Sys2Proof.Machine

/-! ## The flag of an access (60_exceptions.md R227) -/

/-- From `s` to `t` none of CMDERR, WRERR, RDERR and OVF is set. -/
def RaisesNoFlag (s t : State) : Prop :=
  (t.cmdErr = true → s.cmdErr = true) ∧ (t.wrErr = true → s.wrErr = true) ∧ (t.rdErr = true → s.rdErr = true) ∧
    (t.ovf = true → s.ovf = true)

/-- The table of R227: which access sets which flag. -/
inductive FlagCause (i : Instr) (s : State) : State → Prop
  | command : isCommand i = true → FlagCause i s (flagCmdErr s)
  | busyWrite : isGuardedWrite i = true → s.phase ≠ .idle → FlagCause i s (flagWrErr s)
  | emptyPop : i = .rdTsData → s.fill ≤ s.rptr → FlagCause i s (respond 0 (flagRdErr s))
  | fullPush (w : Word) : i = .wrTsData w → s.phase = .idle → s.fifoDepth ≤ s.fill →
      FlagCause i s (recordEdge (lowHalf w) s)
  | noFlag {t : State} : RaisesNoFlag s t → FlagCause i s t

theorem clearFlags_raisesNoFlag (w : Word) (s : State) : RaisesNoFlag s (clearFlags w s) := by
  simp +contextual [RaisesNoFlag, w1c_iff]

theorem recordEdge_raisesNoFlag {s : State} (hroom : s.fill < s.fifoDepth) (v : Half) :
    RaisesNoFlag s (recordEdge v s) := by
  simp [RaisesNoFlag, hroom]

theorem exec_flagCause {i : Instr} {s t : State} (h : exec i s = .next t) : FlagCause i s t := by
  cases exec_effect h with
  | commandRejected hi => exact .command hi
  | writeRejected hi hbusy => exact .busyWrite hi hbusy
  | popEmpty hi hempty => exact .emptyPop hi (Nat.le_of_not_lt hempty)
  | push w hi hidle =>
    obtain hroom | hfull := Nat.lt_or_ge s.fill s.fifoDepth
    · exact .noFlag (recordEdge_raisesNoFlag hroom _)
    · exact .fullPush w hi hidle hfull
  | clearFlags w _ => exact .noFlag (clearFlags_raisesNoFlag w s)
  | _ => exact .noFlag (by simp [RaisesNoFlag])

/-! ## The flags of a tick (60_exceptions.md R227) -/

/-- OVF changes in CAPTURE only and DONE in RESTORE only. -/
theorem tick_dataFlags (l : Bool) (s : State) :
    (s.phase = .capture ∨ (tick l s).ovf = s.ovf) ∧ (s.phase = .restore ∨ (tick l s).done = s.done) := by
  have he := phaseStep_effect l (clockTick l s)
  rw [← tick] at he
  generalize tick l s = t at he ⊢
  cases he with
  | startEnds _ _ hentry => cases hentry <;> simp
  | captureCounts hp _ => exact ⟨.inl hp, .inr (by simp)⟩
  | captureEnds hp _ => exact ⟨.inl hp, .inr (by simp)⟩
  | restore hp => exact ⟨.inr (by simp [tickRestore]), .inl hp⟩
  | _ => simp

/-! ## The level of IRQ (60_exceptions.md R223, R224) -/

@[simp] theorem dropEvent_ie (s : State) : (dropEvent s).ie = s.ie := by unfold dropEvent; split <;> rfl

theorem irq_iff (s : State) : s.irq = true ↔ s.done = true ∧ s.ie = true := Bool.and_eq_true_iff

/-- The level of IRQ after a step from `s`, by what the step is. -/
inductive IrqAfter (s : State) : Bool → Prop
  | kept : IrqAfter s s.irq
  | transactionEnds (l : Bool) : nextEvent s = .tick l → s.phase = .restore → IrqAfter s s.ie
  | decoded : hostOp (nextEvent s) = some .decode ∨ hostOp (nextEvent s) = some .interpret → s.phase = .idle →
      IrqAfter s s.ie
  | discarded : hostOp (nextEvent s) = some .start ∨ hostOp (nextEvent s) = some .clear → s.phase = .idle →
      IrqAfter s false
  | enabled (w : Word) : hostOp (nextEvent s) = some (.wrCtrl w) → s.phase = .idle →
      IrqAfter s (s.done && w.getLsbD 2)
  | acknowledged (w : Word) : hostOp (nextEvent s) = some (.wrStatus w) →
      IrqAfter s (w1c (w.getLsbD 1) s.done && s.ie)
  | reset : nextEvent s = .reset → IrqAfter s false

/-- IRQ is that level when DONE and IE after the step make it so, which the field lemmas show. -/
theorem IrqAfter.of_eq {s t : State} {level : Bool} (h : IrqAfter s level)
    (ht : t.irq = level := by simp [State.irq]) : IrqAfter s t.irq :=
  ht ▸ h

theorem tick_irqAfter {s : State} {l : Bool} (htick : nextEvent s = .tick l) :
    IrqAfter s (tick l (dropEvent s)).irq := by
  obtain ⟨_, _, hie, _⟩ := tick_frame l (dropEvent s)
  obtain ⟨_, hrestore | hdone⟩ := tick_dataFlags l (dropEvent s)
  · refine (IrqAfter.transactionEnds l htick (by simpa using hrestore)).of_eq ?_
    rw [State.irq, hie, tick_restore l hrestore]
    simp
  · exact IrqAfter.kept.of_eq (by simp [State.irq, hie, hdone])

theorem exec_irqAfter {s t : State} {i : Instr} (hi : hostOp (nextEvent s) = some i)
    (h : exec i (dropEvent s) = .next t) : IrqAfter s t.irq := by
  cases exec_effect h with
  | clearFlags w hop => exact (IrqAfter.acknowledged w (hop ▸ hi)).of_eq
  | ctrl w hop hidle => exact (IrqAfter.enabled w (hop ▸ hi) (by simpa using hidle)).of_eq
  | start hop hidle => exact (IrqAfter.discarded (.inl (hop ▸ hi)) (by simpa using hidle)).of_eq
  | clear hop hidle => exact (IrqAfter.discarded (.inr (hop ▸ hi)) (by simpa using hidle)).of_eq
  | decode hop hidle => exact (IrqAfter.decoded (.inl (hop ▸ hi)) (by simpa using hidle)).of_eq
  | interpret hop hidle => exact (IrqAfter.decoded (.inr (hop ▸ hi)) (by simpa using hidle)).of_eq
  | _ => exact IrqAfter.kept.of_eq

theorem step_irqAfter {s t : State} (h : step s = .next t) : IrqAfter s t.irq := by
  cases step_effect h with
  | host i hi hx => exact exec_irqAfter hi hx
  | tick l htick => exact tick_irqAfter htick
  | reset hreset => exact (IrqAfter.reset hreset).of_eq
  | elsewhere _ _ _ => exact IrqAfter.kept.of_eq

end Sys2Proof.Machine

/-! ## The statements -/

/-- Settles O55: an access by the table of R227, a tick because OVF and DONE belong to different phases. -/
theorem oneErrorFlagPerAccess : Obligations.OneErrorFlagPerAccess := by
  refine ⟨fun i s t h => ?_, fun s level => ?_⟩
  · cases exec_flagCause h with
    | command hi => exact ⟨fun _ _ => ⟨hi, rfl⟩, by simp +contextual⟩
    | busyWrite hi hbusy => exact ⟨by simp +contextual, fun _ _ => ⟨hi, hbusy, rfl⟩, by simp +contextual⟩
    | emptyPop hi hempty =>
      exact ⟨by simp +contextual, by simp +contextual, fun _ _ => ⟨hi, hempty, rfl⟩, by simp +contextual⟩
    | fullPush w hi hidle hfull =>
      exact ⟨by simp +contextual, by simp +contextual, by simp +contextual,
        fun _ _ => ⟨⟨w, hi⟩, hidle, hfull, rfl, rfl, rfl⟩⟩
    | noFlag hno =>
      obtain ⟨hcmd, hwr, hrd, hovf⟩ := hno
      simp +contextual [hcmd, hwr, hrd, hovf]
  · obtain ⟨_, _, _, _, _, _, _, hcmd, hwr, hrd, _⟩ := tick_frame level s
    obtain ⟨hovf, hdone⟩ := tick_dataFlags level s
    refine ⟨_, rfl, hcmd, hwr, hrd, fun hset hclear => ?_, fun hset hclear => ?_⟩
    · have hcapture : s.phase = .capture := hovf.resolve_right (by simp [hset, hclear])
      exact ⟨hcapture, hdone.resolve_left (by simp [hcapture])⟩
    · have hrestore : s.phase = .restore := hdone.resolve_right (by simp [hset, hclear])
      exact ⟨hrestore, hovf.resolve_left (by simp [hrestore])⟩

/-- Settles O58, by the level a step leaves. -/
theorem irqRisesAndFallsOnlyAsListed : Obligations.IrqRisesAndFallsOnlyAsListed := by
  intro s t h
  have hafter := step_irqAfter h
  generalize t.irq = level at hafter ⊢
  cases hafter with
  | kept => simp +contextual
  | transactionEnds l htick hrestore =>
    exact ⟨fun _ hie => .inl ⟨hrestore, hie, l, htick⟩, fun hirq hie => by simp [irq_iff, hie] at hirq⟩
  | decoded hop hidle =>
    exact ⟨fun _ hie => .inr (.inl ⟨hidle, hie, hop⟩), fun hirq hie => by simp [irq_iff, hie] at hirq⟩
  | discarded hop hidle => exact ⟨nofun, fun _ _ => .inr (.inr (.inl ⟨hidle, hop⟩))⟩
  | enabled w hop hidle =>
    refine ⟨fun _ hrise => ?_, fun hirq hfall => ?_⟩
    · obtain ⟨hdone, hbit⟩ := Bool.and_eq_true_iff.mp hrise
      exact .inr (.inr ⟨hidle, hdone, w, hop, hbit⟩)
    · obtain ⟨hdone, _⟩ := (irq_iff s).mp hirq
      rw [hdone, Bool.true_and] at hfall
      exact .inr (.inr (.inr ⟨hidle, w, hop, hfall⟩))
  | acknowledged w hop =>
    refine ⟨fun hirq hrise => ?_, fun hirq hfall => ?_⟩
    · obtain ⟨hkept, hie⟩ := Bool.and_eq_true_iff.mp hrise
      obtain ⟨hdone, _⟩ := (w1c_iff _ _).mp hkept
      simp [State.irq, hdone, hie] at hirq
    · obtain ⟨hdone, hie⟩ := (irq_iff s).mp hirq
      rw [hdone, hie, Bool.and_true, w1c, Bool.true_and, Bool.not_eq_false'] at hfall
      exact .inr (.inl ⟨w, hop, hfall⟩)
  | reset hreset => exact ⟨nofun, fun _ _ => .inl hreset⟩

end

section
/-! SUPPORT. The proofs of the statements of 70_reset_and_hazards.md: the values reset gives (R250, with 10_state.md
R46), and which steps change the results, the frame and the trace while IDLE (R258, R263). -/

open Sys2Proof Sys2Proof.Machine

namespace Sys2Proof.Machine

/-! ## Reset (70_reset_and_hazards.md R250) -/

/-- There is no byte behind the five, and `byte` reads 0 there too. -/
@[simp] theorem RawFrame.zero_byte (k : Nat) : RawFrame.zero.byte k = 0 := by
  unfold RawFrame.byte
  split <;> rfl

/-- STATUS after reset: LINE and OUT are high and every other bit is 0 (10_state.md R46). -/
@[simp] theorem resetBlock_statusWord (s : State) : (resetBlock s).statusWord = 0x00050000 :=
  calc (resetBlock s).statusWord
      = State.reset.statusWord := rfl
    _ = 0x00050000 := by decide

@[simp] theorem resetBlock_irq (s : State) : (resetBlock s).irq = false := rfl

/-! ## What changes the data of the block (70_reset_and_hazards.md R258, R263) -/

/-- From `s` to `t` RESULT, BITCOUNT, HUM and TEMP stay. -/
def ResultsKept (s t : State) : Prop :=
  t.result = s.result ∧ t.bitCount = s.bitCount ∧ t.hum = s.hum ∧ t.temp = s.temp

/-- From `s` to `t` EDGE, S and N stay. -/
def TraceKept (s t : State) : Prop := t.edge = s.edge ∧ t.fill = s.fill ∧ t.edgeCount = s.edgeCount

/-- The list of R263: each part of the data stays unless the host operation `op` is one of those that change it. -/
def DataChangesOnlyBy (op : Option Instr) (s t : State) : Prop :=
  (ResultsKept s t ∨ op = some .start ∨ op = some .decode ∨ op = some .interpret ∨ op = some .clear) ∧
  (t.raw = s.raw ∨ op = some .start ∨ op = some .decode ∨ op = some .clear ∨
    ∃ w, op = some (.wrRawLo w) ∨ op = some (.wrRawHi w)) ∧
  (TraceKept s t ∨ op = some .start ∨ op = some .clear ∨ ∃ w, op = some (.wrTsData w)) ∧
  (t.rptr = s.rptr ∨ op = some .start ∨ op = some .clear ∨ op = some .rdTsData)

theorem DataChangesOnlyBy.of_kept {op : Option Instr} {s t : State}
    (hresults : ResultsKept s t := by simp [ResultsKept]) (hraw : t.raw = s.raw := by simp)
    (htrace : TraceKept s t := by simp [TraceKept]) (hrptr : t.rptr = s.rptr := by simp) :
    DataChangesOnlyBy op s t :=
  ⟨.inl hresults, .inl hraw, .inl htrace, .inl hrptr⟩

/-- The list reads no event field, so taking the event does not show in it. -/
theorem DataChangesOnlyBy.of_dropEvent {op : Option Instr} {s t : State}
    (h : DataChangesOnlyBy op (dropEvent s) t) : DataChangesOnlyBy op s t := by
  obtain ⟨n, hn⟩ | ⟨es, hes⟩ := dropEvent_shape s
  · rw [hn] at h; exact h
  · rw [hes] at h; exact h

theorem exec_dataChanges {i : Instr} {s t : State} (h : exec i s = .next t) : DataChangesOnlyBy (some i) s t := by
  cases exec_effect h with
  | start hop _ => simp [DataChangesOnlyBy, hop]
  | clear hop _ => simp [DataChangesOnlyBy, hop]
  | decode hop _ => simp [DataChangesOnlyBy, TraceKept, hop]
  | interpret hop _ => simp [DataChangesOnlyBy, TraceKept, hop]
  | rawLo w hop _ => simp [DataChangesOnlyBy, ResultsKept, TraceKept, hop]
  | rawHi w hop _ => simp [DataChangesOnlyBy, ResultsKept, TraceKept, hop]
  | push w hop _ => simp [DataChangesOnlyBy, ResultsKept, hop]
  | pop hop _ => simp [DataChangesOnlyBy, ResultsKept, TraceKept, hop]
  | _ => exact .of_kept

theorem tick_idle_dataChanges {op : Option Instr} {s : State} (hidle : s.phase = .idle) (l : Bool) :
    DataChangesOnlyBy op s (tick l s) := by
  rw [tick_idle l hidle]
  exact .of_kept

end Sys2Proof.Machine

/-! ## The statements -/

/-- Settles O57: a host operation changes what R263 lists for it, and an IDLE tick and an access elsewhere change no
data. -/
theorem idleResultsChangeOnlyOnCommand : Obligations.IdleResultsChangeOnlyOnCommand := by
  intro s t hidle h hreset
  refine DataChangesOnlyBy.of_dropEvent ?_
  cases step_effect h with
  | host i hi hx => rw [hi]; exact exec_dataChanges hx
  | tick l _ => exact tick_idle_dataChanges (by simpa using hidle) l
  | reset hr => exact absurd hr hreset
  | elsewhere _ _ _ => exact .of_kept

/-- Settles O9: the next state is the reset block, field by field, and a read of ID answers the same in every state. -/
theorem resetGivesTheResetValues : Obligations.ResetGivesTheResetValues := by
  intro s es h
  obtain ⟨hid, _⟩ := readsOfConstants (resetBlock { s with events := es }) 0
  refine ⟨resetBlock { s with events := es }, step_listed h, ?_⟩
  simpa [SensorModel.bit, CsumMode.bit, State.fifoDepth, State.paramWord] using hid

end
